-- ==== Sys2Proof/Word.lean ====
section
/-! DEFINITION. The word types of the OC-632: bytes, Ethernet addresses, 48-bit tick values, 32-bit
counters and handles (spec 00, section 4). -/

namespace Sys2Proof

/-- One byte of a frame, a message or staging memory. -/
abbrev Byte := BitVec 8

/-- A 48-bit Ethernet address; a frame's source address is the *origin* of spec 00, section 5. -/
abbrev Addr := BitVec 48

/-- A 48-bit tick count: a wall time (R1) or a capture stamp (spec 00, 4.3). Sums and differences of
this type are taken modulo 2^48, as those sections ask. -/
abbrev Tick := BitVec 48

/-- A 32-bit statistics counter (spec 00, 4.5). -/
abbrev Counter := BitVec 32

/-- A 32-bit handle naming one file on the edit server. -/
abbrev Handle := BitVec 32

/-- The number of a Feed Table entry (R2). -/
abbrev FeedNo := Fin 32

/-- The number of a Clip Table record (R82). -/
abbrev ClipNo := Fin 64

end Sys2Proof
end

