-- ==== Sys2Proof/Syntax.lean ====
section
/-! DEFINITION. The commands of the OC-632, one constructor for each row of spec/opcode_table.json.
The table gives its rows no bits and no operands; the operands here are what the row's rule takes from
outside the step: the Ethernet frame that arrives, and the feed that a per-feed step is taken for. A
management request is taken from the request queue (R158), so its row carries no operand: its fields
are the body bytes that its MGMT frame brought (assumption log 3). -/

namespace Sys2Proof

/-- An Ethernet frame presented at a port: whether its Ethernet frame check is good, and its bytes from
the first of the destination address up to, and without, the four of the frame check (R20, R125). -/
structure EthFrame where
  fcsGood : Bool
  bytes   : List Byte
  deriving DecidableEq, Repr

/-- The kind of a frame given to the Placement Engine (R49, R32). -/
inductive FrameKind where
  | media
  | void
  deriving DecidableEq, Repr

/-- The steps of spec/opcode_table.json, in the table's order. -/
inductive Instr where
  /-- POWER_ON_RESET (R1). -/
  | powerOnReset
  /-- CONTRIBUTION_FRAME_RECEIVED (R20): `f` is presented on the contribution port. -/
  | contributionFrameReceived (f : EthFrame)
  /-- CONTRIBUTION_CARRIER_LOSS (R36). -/
  | contributionCarrierLoss
  /-- CONTRIBUTION_CARRIER_RETURN (R163). -/
  | contributionCarrierReturn
  /-- TRANSMIT_FRAME_SENT (R163). -/
  | transmitFrameSent
  /-- FA_TAKE_UNIT (R38): the FA takes the oldest MEDIA unit handed on for `feed`. -/
  | faTakeUnit (feed : FeedNo)
  /-- FRAME_ADMISSION (R61): the PE takes the oldest frame of this kind handed on for `feed`. -/
  | frameAdmission (feed : FeedNo) (kind : FrameKind)
  /-- CONTEXT_EXPIRY (R51). -/
  | contextExpiry
  /-- REORDER_HOLD_EXPIRY (R64) of the head of `feed`'s ring. -/
  | reorderHoldExpiry (feed : FeedNo)
  /-- PACING_FILL (R76): the PE takes `feed`'s pacing fill request. -/
  | pacingFill (feed : FeedNo)
  /-- FEED_LOST (R15): the CM takes the loss of `feed`. -/
  | feedLost (feed : FeedNo)
  /-- PERIOD_EXPIRY (R149). -/
  | periodExpiry
  /-- WATCH_CHECK (R150) of the next listed feed of the running sweep. -/
  | watchCheck
  /-- STEP_END (R108). -/
  | stepEnd
  /-- WRITE_ANSWER (R125): `f` is received on the storage port. -/
  | writeAnswer (f : EthFrame)
  /-- READY (R129): `f` is received on the storage port. -/
  | ready (f : EthFrame)
  /-- STORAGE_FOREIGN_FRAME (R125): `f` is received on the storage port. -/
  | storageForeignFrame (f : EthFrame)
  /-- LAST_PIECE_SENT (R124). -/
  | lastPieceSent
  /-- BACKOFF_END (R130). -/
  | backoffEnd
  /-- ACK_TIMEOUT (R132). -/
  | ackTimeout
  /-- RETIRED_ID_FREED (R123). -/
  | retiredIdFreed
  /-- LINK_LOSS (R136). -/
  | linkLoss
  /-- CARRIER_RETURN (R137). -/
  | carrierReturn
  /-- STORAGE_HOLD_ASSERTED (R138). -/
  | storageHoldAsserted
  /-- STORAGE_HOLD_RELEASED (R138). -/
  | storageHoldReleased
  /-- SET_FEED (R3). -/
  | setFeed
  /-- GET_FEED (R18). -/
  | getFeed
  /-- ENABLE_FEED (R10). -/
  | enableFeed
  /-- DISABLE_FEED (R17). -/
  | disableFeed
  /-- STAGE_FEED (R6). -/
  | stageFeed
  /-- OPEN_CLIP (R11). -/
  | openClip
  /-- CLOSE_CLIP (R12). -/
  | closeClip
  /-- RELEASE_CLIP (R99). -/
  | releaseClip
  /-- GET_CLIP (R98). -/
  | getClip
  /-- SET_STORAGE (R119). -/
  | setStorage
  /-- SET_DEVICE (R160). -/
  | setDevice
  /-- SET_WATCH (R148). -/
  | setWatch
  /-- GET_WATCH (R153). -/
  | getWatch
  /-- SET_ORIGINS (R156). -/
  | setOrigins
  /-- GET_STATUS (R161). -/
  | getStatus
  /-- CLEAR_STATUS (R166). -/
  | clearStatus
  /-- GET_COUNTERS (R162). -/
  | getCounters
  /-- RESET_DEVICE (R167). -/
  | resetDevice
  /-- UNKNOWN_KIND_REQUEST (R159). -/
  | unknownKindRequest
  /-- RESET_TAKES_EFFECT (R167). -/
  | resetTakesEffect
  /-- RESET_LINE_ASSERTED (R1). -/
  | resetLineAsserted
  deriving DecidableEq, Repr

end Sys2Proof
end

