-- ==== Sys2Proof/Decode.lean ====
section
/-! DEFINITION. The decoder of table words. No row of spec/opcode_table.json is given bits (the reader's
counts say 46 rows unread, no row with fixed bits), so no word spells a command. The formats that the
part itself decodes (chapter 10) stand in Machine/Operands.lean. -/

namespace Sys2Proof

/-- The command that the low `nbits` bits of `w` spell by the table: none, since the table gives no row
any bits. -/
def decodeTableWord (_nbits _w : Nat) : Option Instr := none

end Sys2Proof
end

