-- ==== Sys2Proof/Config.lean ====
section
/-! DEFINITION. What the spec leaves open and the machine goes on with: the bytes of a reduced browse frame
(assumption log 2), and the order of two events that come together within one command (assumption log
30). -/

namespace Sys2Proof

/-- FREE VALUE. Byte `i` of the reduced frame that the reducer makes at delivery number `serial`.
R110 says the result is a reduced frame of exactly the entry's output size; no rule says what the
reduction computes. No body: nothing can be proved about it (assumption log 2). -/
opaque Config.reducedByte : Nat → Nat → BitVec 8

/-- FREE VALUE. Whether, where a notice and the waiting response meet at the place that a sent frame has
freed, `n` frames having been sent so far, the notice is taken first (R163, R168). No body: nothing can be proved about it (assumption log 30). -/
opaque Config.noticeFirst : Nat → Bool

/-- FREE VALUE. Whether the results of a reduction step are queued before a waiting head is placed,
where both reach a freed write queue entry together and the next write is number `n` (R69, R116). No body:
nothing can be proved about it (assumption log 30). -/
opaque Config.resultFirst : Nat → Bool

end Sys2Proof
end

