-- ==== Sys2Proof/Machine/State.lean ====
section
/-! DEFINITION. The state of the OC-632, block by block (spec 00, section 3), as plain data, with its
power-on values. The docstring of a field names the rule that gives it. -/

namespace Sys2Proof.Machine

/-! ### Names -/

/-- The feed states of R8. -/
inductive FeedState where
  | off | idle | recording | stalled | lost
  deriving DecidableEq, Repr

/-- The clip states of R83; `opened` is the state OPEN. -/
inductive ClipState where
  | free | opened | recording | draining | closed | failed
  deriving DecidableEq, Repr

/-- The browse modes of section 1.2; `off` is the mode NONE. -/
inductive BrowseMode where
  | off | ratio | marked
  deriving DecidableEq, Repr

/-- The at-limit actions of R74. -/
inductive AtLimit where
  | stop | split
  deriving DecidableEq, Repr

/-- The cost classes of R112. -/
inductive CostClass where
  | a | b
  deriving DecidableEq, Repr

/-- The watch modes of R150. -/
inductive WatchMode where
  | off | floor | ceiling | both
  deriving DecidableEq, Repr

/-- The verdicts of R150, with the no-verdict state of R153. -/
inductive Verdict where
  | noVerdict | normal | starved | runaway
  deriving DecidableEq, Repr

/-- The end reasons of R82. -/
inductive EndReason where
  | stopped | limit | discontinuity | sourceLost | failed
  deriving DecidableEq, Repr

/-- The write classes of R120. -/
inductive WriteClass where
  | index | essence | browse
  deriving DecidableEq, Repr

/-- The abort reasons of R134. -/
inductive AbortReason where
  | fault | retriesExhausted | busyShed | clipFailed | feedStopped
  deriving DecidableEq, Repr

/-- The busy policies of R119. -/
inductive BusyPolicy where
  | wait | retry | shed
  deriving DecidableEq, Repr

/-- The kinds of a fill run (R70); `rep` is REPEAT. -/
inductive FillKind where
  | rep | void
  deriving DecidableEq, Repr

/-! ### Feed Table (FR, chapter 1) -/

/-- A time-of-day label (R79). -/
structure Label where
  hh : Nat
  mm : Nat
  ss : Nat
  ff : Nat
  deriving DecidableEq, Repr

/-- The four staged settings (section 1.4): browse mode, bn/bd, S and F. -/
structure StagedSet where
  mode      : BrowseMode
  bn        : Nat
  bd        : Nat
  segLen    : Nat
  fillLimit : Nat
  deriving DecidableEq, Repr

/-- The configuration part of a Feed Table entry (section 1.2). -/
structure FeedConfig where
  tag           : BitVec 16
  origin        : Addr
  unitSize      : Nat
  period        : Nat
  depth         : Nat
  quota         : Nat
  hold          : Nat
  asmTimeout    : Nat
  clipLimit     : Option Nat
  atLimit       : AtLimit
  staged        : StagedSet
  /-- browse frame size in units of 4 KiB (R173) -/
  browseUnits   : Nat
  cost          : CostClass
  startLabel    : Label
  handleNext    : Handle
  handleCeiling : Handle
  watchMode     : WatchMode
  floor         : BitVec 32
  ceiling       : BitVec 32
  lostSweeps    : Nat
  pacing        : Nat
  autoResume    : Bool
  deriving DecidableEq, Repr

/-- The per-feed counters (R8), in the order of R175. -/
structure FeedCounters where
  unitsReceived  : Counter
  badCheck       : Counter
  notRecording   : Counter
  throttled      : Counter
  malformed      : Counter
  duplicate      : Counter
  incomplete     : Counter
  noRoom         : Counter
  late           : Counter
  duplicateFrame : Counter
  offGrid        : Counter
  overrun        : Counter
  deriving DecidableEq, Repr

/-- One Feed Table entry (R2, R8). -/
structure Feed where
  cfg       : FeedConfig
  state     : FeedState
  clip      : Option ClipNo
  arrival   : BitVec 32
  starved   : Nat
  throttled : Bool
  pending   : Option StagedSet
  counters  : FeedCounters
  deriving DecidableEq, Repr

/-! ### Receive path and assembly (chapters 2 and 3) -/

/-- The port counters of R34. -/
structure PortCounters where
  damaged      : Counter
  foreign      : Counter
  truncated    : Counter
  unknownClass : Counter
  badCheck     : Counter
  management   : Counter
  unmatched    : Counter
  deriving DecidableEq, Repr

/-- A MEDIA unit on its way from the FR to the FA (R31). -/
structure HandedUnit where
  feed    : FeedNo
  stamp   : Tick
  number  : Nat
  last    : Bool
  mark    : Bool
  length  : Nat
  payload : List Byte
  arrival : Tick
  deriving DecidableEq, Repr

/-- An assembly context (R37). `units` is the coverage with each recorded unit's bytes, ascending by
unit number: unit `k`'s bytes lie at offset `k * U` of the frame (R44). `blocks` lists the block
positions that hold a block, `last` the last unit number and its length. -/
structure Context where
  stamp  : Tick
  first  : Tick
  units  : List (Nat × List Byte)
  last   : Option (Nat × Nat)
  mark   : Bool
  blocks : List Nat
  deriving DecidableEq, Repr

/-- A committed MEDIA frame (R49) or a VOID frame (R32). `blocks` counts its staging blocks, `data` is
what they hold. -/
structure Frame where
  stamp  : Tick
  kind   : FrameKind
  mark   : Bool
  size   : Nat
  blocks : Nat
  data   : List Byte
  commit : Tick
  deriving DecidableEq, Repr

/-- A frame on its way to the PE (R49, R32). -/
structure HandedFrame where
  feed  : FeedNo
  frame : Frame
  deriving DecidableEq, Repr

/-- An entry of a staging ring (R57). -/
structure RingEntry where
  index : Nat
  frame : Frame
  deriving DecidableEq, Repr

/-- A placed MEDIA frame whose blocks are still held (R106, R115), under the number of its ESSENCE
write: its size, its staging blocks counted, what they hold, and its two holds. -/
structure PlacedFrame where
  id            : Nat
  size          : Nat
  blocks        : Nat
  data          : List Byte
  essenceHold   : Bool
  reductionHold : Bool
  deriving DecidableEq, Repr

/-- The Staging Memory Controller (R46, R142 to R147). -/
@[ext]
structure Smc where
  level     : Nat
  occupancy : Nat
  pressure  : Bool
  holdings  : Vector Nat 32
  raises    : Counter
  deriving DecidableEq, Repr

/-! ### Clips (chapters 4 and 5) -/

/-- The placement cursor of a clip in OPEN or RECORDING (R57, R102). `origin` is the pair of the origin
stamp and the origin wall time. The working values stand in the clip record (R82). -/
structure Cursor where
  origin      : Option (Tick × Tick)
  next        : Nat
  lastEssence : Option Nat
  offset      : Nat
  acc         : Nat
  picks       : Nat
  deriving DecidableEq, Repr

/-- A fill run of a segment (R87). -/
structure FillRun where
  start : Nat
  count : Nat
  kind  : FillKind
  deriving DecidableEq, Repr

/-- The open segment record (R87). `unanswered` lists the numbers of its unacknowledged ESSENCE
writes. -/
structure Segment where
  number     : Nat
  first      : Nat
  frames     : Nat
  firstLabel : Nat
  offset     : Nat
  bytes      : Nat
  runs       : List FillRun
  firstPick  : Nat
  picks      : Nat
  holes      : List Nat
  unanswered : List Nat
  deriving DecidableEq, Repr

/-- What an index record slot holds (section 10.4, R177). `final` is the end reason of the final
segment, absent for the others. -/
structure IndexRecord where
  number        : Nat
  essenceHandle : Handle
  browseHandle  : Handle
  indexHandle   : Handle
  period        : Nat
  browseBytes   : Nat
  first         : Nat
  firstLabel    : Nat
  offset        : Nat
  bytes         : Nat
  firstPick     : Nat
  frames        : Nat
  picks         : Nat
  final         : Option EndReason
  runs          : List FillRun
  holes         : List Nat
  deriving DecidableEq, Repr

/-- A closed segment awaiting publication with its record in the record store (R91). `handed` is set
once its INDEX write has been queued (R95). -/
structure ClosedSegment where
  record     : IndexRecord
  unanswered : List Nat
  handed     : Bool
  deriving DecidableEq, Repr

/-- A Clip Table record (R82), with its placement cursor (R57). `storeFailed` marks a clip that failed
because the record store was full: R135 treats its entries apart. -/
structure Clip where
  feed          : FeedNo
  state         : ClipState
  essenceHandle : Handle
  browseHandle  : Handle
  indexHandle   : Handle
  origin        : Option Tick
  startLabel    : Nat
  placed        : Nat
  essence       : Nat
  repeats       : Nat
  voids         : Nat
  picks         : Nat
  holes         : Nat
  bytes         : Nat
  segsClosed    : Nat
  records       : Nat
  frontier      : Nat
  endReason     : Option EndReason
  working       : StagedSet
  openSeg       : Option Segment
  closed        : List ClosedSegment
  cursor        : Option Cursor
  storeFailed   : Bool
  deriving DecidableEq, Repr

/-! ### Browse Unit (chapter 6) -/

/-- A reduction entry (R106). `frame` names the placed frame, which holds its size and its staging blocks
(`PlacedFrame`), by the number of its ESSENCE write. -/
structure Reduction where
  feed    : FeedNo
  clip    : ClipNo
  segment : Nat
  pick    : Nat
  frame   : Nat
  cost    : CostClass
  outSize : Nat
  discard : Bool
  deriving DecidableEq, Repr

/-- A running reduction step: its lanes, older entry first, and its end time (R108). -/
structure RedStep where
  lanes : List Reduction
  ends  : Tick
  deriving DecidableEq, Repr

/-- The Browse Unit's counters (R117), in the table's order. -/
structure BrowseCounters where
  shedPressure  : Counter
  shedQueueFull : Counter
  shedNoBlocks  : Counter
  shedShare     : Counter
  delivered     : Counter
  discarded     : Counter
  unlisted      : Counter
  deriving DecidableEq, Repr

/-- The Browse Unit: reduction queue (R106), reducer (R108), durations in tenths of a millisecond
(R112, R160). `serial` numbers the deliveries: the free value of Config is applied to it. -/
@[ext]
structure BrowseUnit where
  queue    : List Reduction
  step     : Option RedStep
  durA     : Nat
  durB     : Nat
  serial   : Nat
  counters : BrowseCounters
  deriving DecidableEq, Repr

/-! ### Storage Writer (chapter 7) -/

/-- One value for each write class. -/
structure PerClass (α : Type) where
  index   : α
  essence : α
  browse  : α
  deriving DecidableEq, Repr

/-- The data of a write (R120): a frame's bytes, a reduction output (its delivery number, pick number
and number of output blocks), or a record of the record store. -/
inductive WriteData where
  | frame (bytes : List Byte)
  | reduced (serial pick blocks : Nat)
  | record (r : IndexRecord)
  deriving DecidableEq, Repr

/-- What a SENT entry holds: its write ID (R123), its number in the order of sends, and its send time
once its last piece has left (R124). -/
structure Flight where
  id       : BitVec 8
  order    : Nat
  sendTime : Option Tick
  deriving DecidableEq, Repr

/-- A write queue entry (R120). The state is SENT exactly while `flight` is present. `serial` is its
number in the order of arrival. -/
structure WriteEntry where
  serial     : Nat
  cls        : WriteClass
  clip       : ClipNo
  segment    : Nat
  handle     : Handle
  offset     : Nat
  length     : Nat
  data       : WriteData
  attempts   : Nat
  flight     : Option Flight
  backoffEnd : Option Tick
  sentBefore : Bool
  deriving DecidableEq, Repr

/-- A write whose pieces are leaving, or are still to leave, the storage port (R124). `order` numbers
the send that its pieces belong to, as in `Flight` (assumption log 24). The addresses are those that
stood at the send (R119). -/
structure PortWrite where
  serial : Nat
  order  : Nat
  id     : BitVec 8
  dst    : Addr
  src    : Addr
  handle : Handle
  offset : Nat
  length : Nat
  data   : WriteData
  deriving DecidableEq, Repr

/-- What is returned when a write's last piece has left (R124): the essence hold of its frame, its
output blocks, or its place in the record store. -/
inductive LateReturn where
  | essenceHold
  | blocks (n : Nat)
  | record
  deriving DecidableEq, Repr

/-- The Storage Writer settings (R119); the backoff interval is counted in tens of microseconds. -/
structure StorageSettings where
  peer       : Option Addr
  port       : Addr
  ackTimeout : Nat
  backoff    : Nat
  policy     : PerClass BusyPolicy
  retry      : PerClass Nat
  deriving DecidableEq, Repr

/-- A retired write ID: when it was retired, and the ack timeout at that moment (R123). -/
structure RetiredId where
  id      : BitVec 8
  since   : Tick
  timeout : Nat
  deriving DecidableEq, Repr

/-- The per-class counters of R140, in the table's order. -/
structure ClassCounters where
  queued       : Counter
  sends        : Counter
  acknowledged : Counter
  busy         : Counter
  fault        : Counter
  timeouts     : Counter
  aborts       : Counter
  removed      : Counter
  deriving DecidableEq, Repr

/-- The Storage Writer (chapter 7). `queue` is in the order of arrival; the outstanding window is its
SENT entries. `portQueue` holds the writes leaving the port, `late` what waits for a last piece
(R124). `lastMessages` is the port's latest output: the Ethernet frames of the write whose last piece
left last. -/
@[ext]
structure StorageWriter where
  settings     : StorageSettings
  queue        : List WriteEntry
  portQueue    : List PortWrite
  late         : List (Nat × LateReturn)
  lastUsed     : BitVec 8
  retired      : List RetiredId
  paused       : PerClass Bool
  records      : PerClass (BitVec 5)
  counters     : PerClass ClassCounters
  stray        : Counter
  readies      : Counter
  foreign      : Counter
  lastMessages : List (List Byte)
  deriving DecidableEq, Repr

/-! ### Feed Watch (chapter 8) -/

/-- A watch table entry (R153). -/
structure WatchEntry where
  bytes   : BitVec 32
  verdict : Verdict
  time    : Option Tick
  deriving DecidableEq, Repr

/-- A running sweep (R149): its wall time and the listed feeds still to be checked. -/
structure Sweep where
  time      : Tick
  remaining : List FeedNo
  deriving DecidableEq, Repr

/-- Feed Watch (R148 to R155). The period is counted in tens of milliseconds, 0 for off. `pacing` and
`losses` hold the requests handed on (R151) and not yet taken. -/
@[ext]
structure FeedWatch where
  sequence   : List FeedNo
  period     : Nat
  base       : Tick
  nextExpiry : Tick
  sweep      : Option Sweep
  table      : Vector WatchEntry 32
  pacing     : List FeedNo
  losses     : List FeedNo
  sweeps     : Counter
  deriving DecidableEq, Repr

/-! ### Management Unit (chapter 9) -/

/-- A request in the request queue (R157): its body without the opening four bytes. -/
structure Request where
  origin : Addr
  tag    : BitVec 16
  kind   : BitVec 16
  body   : List Byte
  deriving DecidableEq, Repr

/-- A frame of the transmit queue (R163): addresses, the stamp of its unit (R171) and the management
body. -/
structure TxFrame where
  dst   : Addr
  src   : Addr
  stamp : Tick
  body  : List Byte
  deriving DecidableEq, Repr

/-- A response that waits for the transmit queue (R163); `reset` marks the DONE of a RESET DEVICE
(R167). -/
structure Waiting where
  frame : TxFrame
  reset : Bool
  deriving DecidableEq, Repr

/-- A response that has joined the place which a sent frame freed at this wall time, and the request that
left the request queue with it. A notice formed at this wall time may have met them there (R163, R168;
assumption log 30). -/
structure Joined where
  response : Waiting
  request  : Request
  deriving DecidableEq, Repr

/-- The Management Unit and the transmit queue (R156 to R170). `devFlags` and `feedFlags` number their
bits as R174 does. `resetDue` is set from the moment the DONE response of a RESET DEVICE is in the
transmit queue until the reset has taken effect. `lastSent` is the contribution port's latest output:
the bytes of the frame sent last. `sent` numbers the frames sent: a free value of Config is applied to
it. `joined` is the model's own: the latest join of a waiting response, while a notice may still have met
it. -/
@[ext]
structure Mgmt where
  origins           : List Addr
  address           : Addr
  requests          : List Request
  waiting           : Option Waiting
  resetDue          : Bool
  tx                : List TxFrame
  devFlags          : BitVec 7
  feedFlags         : Vector (BitVec 5) 32
  refusedOrigin     : Counter
  malformedRequests : Counter
  requestsDropped   : Counter
  noticesUnsent     : Counter
  lastSent          : List Byte
  sent              : Nat
  joined            : Option Joined
  deriving DecidableEq, Repr

/-! ### The whole part -/

/-- The state of the part. `resetLine`, `contribCarrier`, `storCarrier` and `holdLine` are the levels
of its input lines. `nextSerial` numbers writes in the order they were queued and sent; a free value of
Config is applied to it. `pending` is
the queue of commands that wait, first in, first out. -/
@[ext]
structure State where
  wall           : Tick
  resetLine      : Bool
  contribCarrier : Bool
  storCarrier    : Bool
  holdLine       : Bool
  feeds          : Vector Feed 32
  port           : PortCounters
  handedUnits    : List HandedUnit
  handedFrames   : List HandedFrame
  contexts       : Vector (List Context) 32
  smc            : Smc
  rings          : Vector (List RingEntry) 32
  placed         : List PlacedFrame
  clips          : Vector Clip 64
  bu             : BrowseUnit
  sw             : StorageWriter
  fw             : FeedWatch
  mu             : Mgmt
  nextSerial     : Nat
  pending        : List Instr
  deriving DecidableEq, Repr

/-- The reasons a step could stop with a fault: none. The spec gives every step of its table an effect
in every state, so no meaning faults and the type has no constructor. -/
inductive Fault where
  deriving DecidableEq, Repr

/-- The reasons a step could be refused. -/
inductive Refusal where
  /-- Raised by exec for a row without a meaning. No arm of exec raises it in this model; it would be
  safe. -/
  | notModelled (mnemonic : String)
  deriving DecidableEq, Repr

/-! ### Power-on values -/

/-- The defaults of section 1.2. -/
def FeedConfig.default : FeedConfig where
  tag := 0
  origin := 0
  unitSize := 8192
  period := 48000
  depth := 16
  quota := 1024
  hold := 40
  asmTimeout := 100
  clipLimit := none
  atLimit := .stop
  staged := ⟨.off, 1, 1, 250, 25⟩
  browseUnits := 16
  cost := .a
  startLabel := ⟨0, 0, 0, 0⟩
  handleNext := 0
  handleCeiling := 0
  watchMode := .off
  floor := 0
  ceiling := 0
  lostSweeps := 3
  pacing := 2
  autoResume := false

/-- Every per-feed counter 0. -/
def FeedCounters.zero : FeedCounters := ⟨0, 0, 0, 0, 0, 0, 0, 0, 0, 0, 0, 0⟩

/-- A Feed Table entry after reset (R19). -/
def Feed.default : Feed where
  cfg := FeedConfig.default
  state := .off
  clip := none
  arrival := 0
  starved := 0
  throttled := false
  pending := none
  counters := FeedCounters.zero

/-- Every port counter 0 (R36). -/
def PortCounters.zero : PortCounters := ⟨0, 0, 0, 0, 0, 0, 0⟩

/-- The values a FREE record reads with (R98). -/
def Clip.freeRecord : Clip where
  feed := 0
  state := .free
  essenceHandle := 0
  browseHandle := 0
  indexHandle := 0
  origin := none
  startLabel := 0
  placed := 0
  essence := 0
  repeats := 0
  voids := 0
  picks := 0
  holes := 0
  bytes := 0
  segsClosed := 0
  records := 0
  frontier := 0
  endReason := none
  working := ⟨.off, 1, 1, 250, 25⟩
  openSeg := none
  closed := []
  cursor := none
  storeFailed := false

/-- Every Browse Unit counter 0 (R118). -/
def BrowseCounters.zero : BrowseCounters := ⟨0, 0, 0, 0, 0, 0, 0⟩

/-- The power-on storage settings of R119. -/
def StorageSettings.default : StorageSettings where
  peer := none
  port := 0
  ackTimeout := 50
  backoff := 100
  policy := ⟨.wait, .wait, .shed⟩
  retry := ⟨7, 3, 0⟩

/-- Every per-class counter 0 (R141). -/
def ClassCounters.zero : ClassCounters := ⟨0, 0, 0, 0, 0, 0, 0, 0⟩

/-- A watch table entry in the state no verdict (R153). -/
def WatchEntry.blank : WatchEntry := ⟨0, .noVerdict, none⟩

/-- The part after power-on reset: the values of R1, R19, R36, R56, R81, R101, R118, R141, R147, R155
and R170. The line levels and the two output latches are the model's choice (assumption log 5). -/
def State.reset : State where
  wall := 0
  resetLine := false
  contribCarrier := true
  storCarrier := true
  holdLine := false
  feeds := Vector.replicate 32 Feed.default
  port := PortCounters.zero
  handedUnits := []
  handedFrames := []
  contexts := Vector.replicate 32 []
  smc :=
    { level := 2, occupancy := 0, pressure := false, holdings := Vector.replicate 32 0, raises := 0 }
  rings := Vector.replicate 32 []
  placed := []
  clips := Vector.replicate 64 Clip.freeRecord
  bu :=
    { queue := [], step := none, durA := 40, durB := 96, serial := 0,
      counters := BrowseCounters.zero }
  sw :=
    { settings := StorageSettings.default, queue := [], portQueue := [], late := [],
      lastUsed := 255, retired := [], paused := ⟨false, false, false⟩, records := ⟨0, 0, 0⟩,
      counters := ⟨ClassCounters.zero, ClassCounters.zero, ClassCounters.zero⟩,
      stray := 0, readies := 0, foreign := 0, lastMessages := [] }
  fw :=
    { sequence := [], period := 0, base := 0, nextExpiry := 0, sweep := none,
      table := Vector.replicate 32 WatchEntry.blank, pacing := [], losses := [], sweeps := 0 }
  mu :=
    { origins := [], address := 0, requests := [], waiting := none, resetDue := false, tx := [],
      devFlags := 0, feedFlags := Vector.replicate 32 0, refusedOrigin := 0,
      malformedRequests := 0, requestsDropped := 0, noticesUnsent := 0, lastSent := [],
      sent := 0, joined := none }
  nextSerial := 0
  pending := []

end Sys2Proof.Machine
end

