-- ==== Sys2Proof/Machine/Operands.lean ====
section
/-! DEFINITION. The formats of chapter 10 and the classification of received frames: every byte layout
the part reads or writes, as functions on byte lists. Multi-byte fields stand most significant byte
first. -/

namespace Sys2Proof.Machine

/-! ### Bytes -/

/-- The number that a byte string spells, most significant byte first. -/
def beNat (bs : List Byte) : Nat := bs.foldl (fun n b => n * 256 + b.toNat) 0

/-- The low `w` bytes of `n`, most significant byte first. -/
def be : Nat → Nat → List Byte
  | 0, _ => []
  | w + 1, n => be w (n / 256) ++ [BitVec.ofNat 8 n]

/-- `len` bytes from offset `off`; fewer where the string ends before. -/
def slice (off len : Nat) (bs : List Byte) : List Byte := (bs.drop off).take len

/-- The number spelled by `len` bytes from offset `off`. -/
def field (off len : Nat) (bs : List Byte) : Nat := beNat (slice off len bs)

/-- `bs` followed by zero bytes up to length `n`. -/
def padTo (n : Nat) (bs : List Byte) : List Byte := bs ++ List.replicate (n - bs.length) 0

/-- A flag or condition as a byte (R175). -/
def flagByte (b : Bool) : Byte := if b then 1 else 0

/-- A value that may be absent, `w` bytes wide, as R175 lays it out. -/
def optBytes (w : Nat) : Option Nat → List Byte
  | none => 0 :: be w 0
  | some n => 1 :: be w n

/-! ### The check (R172) -/

/-- The polynomial of R172 with its bits reversed, as reflected input and output ask. -/
def crcPoly : BitVec 32 := (0x04C11DB7#32).reverse

/-- One bit of the reflected cyclic code. -/
def crcBit (c : BitVec 32) : BitVec 32 :=
  if c.getLsbD 0 then (c >>> 1) ^^^ crcPoly else c >>> 1

/-- `n` bits of the reflected cyclic code. -/
def crcBits : Nat → BitVec 32 → BitVec 32
  | 0, c => c
  | n + 1, c => crcBits n (crcBit c)

/-- The check of R172: initial value all ones, final inversion. -/
def crc32 (bs : List Byte) : BitVec 32 :=
  ~~~ (bs.foldl (fun c b => crcBits 8 (c ^^^ b.setWidth 32)) (BitVec.allOnes 32))

/-! ### Received frames -/

/-- The transport type (R21). -/
def transportType : Nat := 0x88D7

/-- The type of a frame and what follows its type field, read past one VLAN tag (R20). -/
def frameTypeAndBody (f : EthFrame) : Nat × List Byte :=
  if field 12 2 f.bytes = 0x8100 then (field 16 2 f.bytes, f.bytes.drop 18)
  else (field 12 2 f.bytes, f.bytes.drop 14)

/-- The frame's source address. -/
def frameSource (f : EthFrame) : Addr := BitVec.ofNat 48 (field 6 6 f.bytes)

/-- A frame that either port discards unexamined: its frame check fails, or it is longer than 9,216
bytes with the four bytes of the check (R20, R125). -/
def frameDamaged (f : EthFrame) : Bool := !f.fcsGood || decide (9216 < f.bytes.length + 4)

/-- A transport unit as received (section 10.1). `header` is header bytes 0 to 13, the part the check
covers. -/
structure UnitView where
  cls     : Nat
  last    : Bool
  mark    : Bool
  tag     : BitVec 16
  stamp   : Tick
  number  : Nat
  length  : Nat
  check   : BitVec 32
  header  : List Byte
  payload : List Byte
  deriving DecidableEq, Repr

/-- The unit at the start of a frame body (section 10.1, R171). -/
def unitView (body : List Byte) : UnitView where
  cls := field 0 1 body
  last := (field 1 1 body).testBit 7
  mark := (field 1 1 body).testBit 6
  tag := BitVec.ofNat 16 (field 2 2 body)
  stamp := BitVec.ofNat 48 (field 4 6 body)
  number := field 10 2 body % 2048
  length := field 12 2 body
  check := BitVec.ofNat 32 (field 14 4 body)
  header := slice 0 14 body
  payload := slice 18 (field 12 2 body) body

/-- The unit passes the check of R23. -/
def UnitView.passes (u : UnitView) : Bool := crc32 (u.header ++ u.payload) == u.check

/-- What the receive classifier makes of a frame (R20, R21, R22). -/
inductive RxFrame where
  | damaged
  | foreign
  | truncated
  | unit (src : Addr) (u : UnitView)
  deriving DecidableEq, Repr

/-- The receive classifier (R20, R21, R22, R171). -/
def classify (f : EthFrame) : RxFrame :=
  let body := (frameTypeAndBody f).2
  if frameDamaged f then .damaged
  else if (frameTypeAndBody f).1 ≠ transportType then .foreign
  else if body.length < 18 then .truncated
  else if body.length < 18 + field 12 2 body then .truncated
  else .unit (frameSource f) (unitView body)

/-- Class codes of section 10.1. -/
def clsMedia : Nat := 1
/-- Class VOID. -/
def clsVoid : Nat := 2
/-- Class MGMT. -/
def clsMgmt : Nat := 3

/-- What the storage port makes of a frame (R125, R176). -/
inductive StorageFrame where
  | answer (id result : Byte)
  | ready
  | foreign
  deriving DecidableEq, Repr

/-- A storage message by its bytes (section 10.3, R176). -/
def storageMessage : List Byte → StorageFrame
  | k :: rest =>
    if k = 2 then
      match rest with
      | id :: res :: _ => .answer id res
      | _ => .foreign
    else if k = 3 then .ready
    else .foreign
  | [] => .foreign

/-- The storage port's tests of R125 on a received frame, for the peer address as it stands. -/
def classifyStorage (peer : Option Addr) (f : EthFrame) : StorageFrame :=
  if frameDamaged f then .foreign
  else if (frameTypeAndBody f).1 ≠ transportType then .foreign
  else if peer ≠ some (frameSource f) then .foreign
  else storageMessage (frameTypeAndBody f).2

/-! ### Codes of R173 -/

/-- Feed state codes. -/
def FeedState.code : FeedState → Nat
  | .off => 0 | .idle => 1 | .recording => 2 | .stalled => 3 | .lost => 4

/-- Clip state codes. -/
def ClipState.code : ClipState → Nat
  | .free => 0 | .opened => 1 | .recording => 2 | .draining => 3 | .closed => 4 | .failed => 5

/-- Verdict codes. -/
def Verdict.code : Verdict → Nat
  | .noVerdict => 0 | .normal => 1 | .starved => 2 | .runaway => 3

/-- End reason codes; 0 is absent. -/
def endReasonCode : Option EndReason → Nat
  | none => 0
  | some .stopped => 1
  | some .limit => 2
  | some .discontinuity => 3
  | some .sourceLost => 4
  | some .failed => 5

/-- Write class codes. -/
def WriteClass.code : WriteClass → Nat
  | .index => 0 | .essence => 1 | .browse => 2

/-- Abort reason codes; also the bit of an abort record byte (R174). -/
def AbortReason.code : AbortReason → Nat
  | .fault => 0 | .retriesExhausted => 1 | .busyShed => 2 | .clipFailed => 3 | .feedStopped => 4

/-- Browse mode codes. -/
def BrowseMode.code : BrowseMode → Nat
  | .off => 0 | .ratio => 1 | .marked => 2

/-- The browse mode of a code byte. -/
def BrowseMode.ofCode : Nat → Option BrowseMode
  | 0 => some .off | 1 => some .ratio | 2 => some .marked | _ => none

/-- At-limit action codes. -/
def AtLimit.code : AtLimit → Nat
  | .stop => 0 | .split => 1

/-- The at-limit action of a code byte. -/
def AtLimit.ofCode : Nat → Option AtLimit
  | 0 => some .stop | 1 => some .split | _ => none

/-- Cost class codes. -/
def CostClass.code : CostClass → Nat
  | .a => 0 | .b => 1

/-- The cost class of a code byte. -/
def CostClass.ofCode : Nat → Option CostClass
  | 0 => some .a | 1 => some .b | _ => none

/-- Watch mode codes. -/
def WatchMode.code : WatchMode → Nat
  | .off => 0 | .floor => 1 | .ceiling => 2 | .both => 3

/-- The watch mode of a code byte. -/
def WatchMode.ofCode : Nat → Option WatchMode
  | 0 => some .off | 1 => some .floor | 2 => some .ceiling | 3 => some .both | _ => none

/-- The busy policy of a code byte. -/
def BusyPolicy.ofCode : Nat → Option BusyPolicy
  | 0 => some .wait | 1 => some .retry | 2 => some .shed | _ => none

/-- A present byte, an on/off byte or a label present byte: 0 or 1 (R173). -/
def boolOfCode : Nat → Option Bool
  | 0 => some false | 1 => some true | _ => none

/-- The kind of a fill run in a slot (section 10.4). -/
def FillKind.code : FillKind → Nat
  | .rep => 1 | .void => 2

/-- Response results (R159, R173). -/
inductive Result where
  | done | busy | state | badValue | notFound | noRoom | duplicate
  deriving DecidableEq, Repr

/-- Result codes. -/
def Result.code : Result → Nat
  | .done => 0 | .busy => 1 | .state => 2 | .badValue => 3 | .notFound => 4 | .noRoom => 5
  | .duplicate => 6

/-- Notice kinds (R164). -/
inductive NoticeKind where
  | feedState | clipState | pressure | watch | writeAbort | storageLink | storageHold
  deriving DecidableEq, Repr

/-- Notice kind codes. -/
def NoticeKind.code : NoticeKind → Nat
  | .feedState => 0x81 | .clipState => 0x82 | .pressure => 0x83 | .watch => 0x84
  | .writeAbort => 0x85 | .storageLink => 0x86 | .storageHold => 0x87

/-- Request kinds (R173). -/
inductive RequestKind where
  | setFeed | getFeed | enableFeed | disableFeed | stageFeed | openClip | closeClip | releaseClip
  | getClip | setStorage | setDevice | setWatch | getWatch | setOrigins | getStatus | clearStatus
  | getCounters | resetDevice | unknown
  deriving DecidableEq, Repr

/-- The request kind of a kind field; every value outside the table of R173 is an unknown kind. -/
def RequestKind.ofCode (k : BitVec 16) : RequestKind :=
  match k.toNat with
  | 0x01 => .setFeed | 0x02 => .getFeed | 0x03 => .enableFeed | 0x04 => .disableFeed
  | 0x05 => .stageFeed | 0x06 => .openClip | 0x07 => .closeClip | 0x08 => .releaseClip
  | 0x09 => .getClip | 0x0A => .setStorage | 0x0B => .setDevice | 0x0C => .setWatch
  | 0x0D => .getWatch | 0x0E => .setOrigins | 0x0F => .getStatus | 0x10 => .clearStatus
  | 0x11 => .getCounters | 0x12 => .resetDevice | _ => .unknown

/-- Body bytes that a kind needs after the opening four (the lengths of R173 less 4). For SET WATCH and
SET ORIGINS the length depends on the count in the body. -/
def RequestKind.need (k : RequestKind) (body : List Byte) : Nat :=
  match k with
  | .setFeed => 60 | .getFeed => 1 | .enableFeed => 1 | .disableFeed => 1 | .stageFeed => 7
  | .openClip => 6 | .closeClip => 1 | .releaseClip => 1 | .getClip => 1 | .setStorage => 21
  | .setDevice => 3 | .setWatch => 2 + field 1 1 body | .getWatch => 0
  | .setOrigins => 7 + 6 * field 0 1 body | .getStatus => 0 | .clearStatus => 36
  | .getCounters => 3 | .resetDevice => 0 | .unknown => 0

/-! ### Labels (R79) -/

/-- The nominal rate R of a frame period. -/
def nominalRate (p : Nat) : Nat := (1200000 + p - 1) / p

/-- The count of a label. -/
def labelCount (p : Nat) (l : Label) : Nat :=
  ((l.hh * 60 + l.mm) * 60 + l.ss) * nominalRate p + l.ff

/-- A label is valid for a period (R3). -/
def labelValid (p : Nat) (l : Label) : Bool :=
  decide (l.hh < 24) && decide (l.mm < 60) && decide (l.ss < 60) && decide (l.ff < nominalRate p)

/-- A label count `n` indices on, wrapped at midnight. -/
def labelAdvance (p c n : Nat) : Nat := (c + n) % (86400 * nominalRate p)

/-- The label that a count writes back as (R79). -/
def labelOfCount (p c : Nat) : Label :=
  let r := nominalRate p
  ⟨c / (3600 * r), c / (60 * r) % 60, c / r % 60, c % r⟩

/-- The label in four bytes from offset `off`. -/
def labelAt (off : Nat) (bs : List Byte) : Label :=
  ⟨field off 1 bs, field (off + 1) 1 bs, field (off + 2) 1 bs, field (off + 3) 1 bs⟩

/-! ### Staged set and configuration (R3, R6, R173) -/

/-- The ranges of the staged fields (section 1.2). -/
def StagedSet.valid (t : StagedSet) : Bool :=
  decide (1 ≤ t.bn) && decide (t.bn ≤ t.bd) && decide (t.bd ≤ 60) && decide (1 ≤ t.segLen) &&
    decide (t.segLen ≤ 1024) && decide (t.fillLimit ≤ 250)

/-- The ranges of the configuration fields that their width does not already give (section 1.2). -/
def FeedConfig.valid (c : FeedConfig) : Bool :=
  decide (1024 ≤ c.unitSize) && decide (c.unitSize ≤ 8192) && decide (c.unitSize % 8 = 0) &&
  decide (10000 ≤ c.period) && decide (c.period ≤ 120000) &&
  decide (2 ≤ c.depth) && decide (c.depth ≤ 64) &&
  decide (16 ≤ c.quota) && decide (c.quota ≤ 16384) &&
  decide (c.hold ≤ 500) && decide (1 ≤ c.asmTimeout) && decide (c.asmTimeout ≤ 1000) &&
  (match c.clipLimit with
    | none => true
    | some l => decide (1 ≤ l) && decide (l < 2 ^ 32)) &&
  c.staged.valid &&
  decide (1 ≤ c.browseUnits) && decide (c.browseUnits ≤ 64) &&
  labelValid c.period c.startLabel &&
  decide (1 ≤ c.lostSweeps) && decide (c.lostSweeps ≤ 255) && decide (c.pacing ≤ 250)

/-- The 59 configuration bytes of a GET FEED response and a SET FEED request (R173): the fields in the
order of section 1.2. -/
def configBytes (c : FeedConfig) : List Byte :=
  be 2 c.tag.toNat ++ be 6 c.origin.toNat ++ be 2 c.unitSize ++ be 4 c.period ++ be 1 c.depth ++
  be 2 c.quota ++ be 1 c.staged.fillLimit ++ be 2 c.hold ++ be 2 c.asmTimeout ++
  be 2 c.staged.segLen ++ optBytes 4 c.clipLimit ++ be 1 c.atLimit.code ++
  be 1 c.staged.mode.code ++ be 1 c.staged.bn ++ be 1 c.staged.bd ++ be 1 c.browseUnits ++
  be 1 c.cost.code ++ be 1 c.startLabel.hh ++ be 1 c.startLabel.mm ++ be 1 c.startLabel.ss ++
  be 1 c.startLabel.ff ++ be 4 c.handleNext.toNat ++ be 4 c.handleCeiling.toNat ++
  be 1 c.watchMode.code ++ be 4 c.floor.toNat ++ be 4 c.ceiling.toNat ++ be 1 c.lostSweeps ++
  be 1 c.pacing ++ [flagByte c.autoResume]

/-- The configuration that 59 bytes spell; none where a code or a range of section 1.2 fails (R3 step
2, R173). -/
def parseConfig (bs : List Byte) : Option FeedConfig :=
  match boolOfCode (field 24 1 bs), AtLimit.ofCode (field 29 1 bs),
        BrowseMode.ofCode (field 30 1 bs), CostClass.ofCode (field 34 1 bs),
        WatchMode.ofCode (field 47 1 bs), boolOfCode (field 58 1 bs) with
  | some hasLimit, some atLimit, some mode, some cost, some watch, some auto =>
    let c : FeedConfig :=
      { tag := BitVec.ofNat 16 (field 0 2 bs)
        origin := BitVec.ofNat 48 (field 2 6 bs)
        unitSize := field 8 2 bs
        period := field 10 4 bs
        depth := field 14 1 bs
        quota := field 15 2 bs
        hold := field 18 2 bs
        asmTimeout := field 20 2 bs
        clipLimit := if hasLimit then some (field 25 4 bs) else none
        atLimit := atLimit
        staged := ⟨mode, field 31 1 bs, field 32 1 bs, field 22 2 bs, field 17 1 bs⟩
        browseUnits := field 33 1 bs
        cost := cost
        startLabel := labelAt 35 bs
        handleNext := BitVec.ofNat 32 (field 39 4 bs)
        handleCeiling := BitVec.ofNat 32 (field 43 4 bs)
        watchMode := watch
        floor := BitVec.ofNat 32 (field 48 4 bs)
        ceiling := BitVec.ofNat 32 (field 52 4 bs)
        lostSweeps := field 56 1 bs
        pacing := field 57 1 bs
        autoResume := auto }
    if c.valid then some c else none
  | _, _, _, _, _, _ => none

/-- The staged set of a STAGE FEED body from offset `off` (R173): mode, bn, bd, S, F. -/
def parseStaged (off : Nat) (bs : List Byte) : Option StagedSet :=
  match BrowseMode.ofCode (field off 1 bs) with
  | none => none
  | some m =>
    let t : StagedSet := ⟨m, field (off + 1) 1 bs, field (off + 2) 1 bs, field (off + 3) 2 bs,
      field (off + 5) 1 bs⟩
    if t.valid then some t else none

/-- A staged set in a response (R175). -/
def stagedBytes (t : StagedSet) : List Byte :=
  be 1 t.mode.code ++ be 1 t.bn ++ be 1 t.bd ++ be 2 t.segLen ++ be 1 t.fillLimit

/-! ### Storage settings (R119, R173) -/

/-- The settings that a SET STORAGE body spells; none where a code or a range of R119 fails. -/
def parseStorage (bs : List Byte) : Option StorageSettings :=
  match boolOfCode (field 0 1 bs), BusyPolicy.ofCode (field 15 1 bs),
        BusyPolicy.ofCode (field 16 1 bs), BusyPolicy.ofCode (field 17 1 bs) with
  | some hasPeer, some pi, some pe, some pb =>
    if 1 ≤ field 13 1 bs ∧ 1 ≤ field 14 1 bs ∧ field 18 1 bs ≤ 7 ∧ field 19 1 bs ≤ 7 ∧
        field 20 1 bs ≤ 7 then
      some
        { peer := if hasPeer then some (BitVec.ofNat 48 (field 1 6 bs)) else none
          port := BitVec.ofNat 48 (field 7 6 bs)
          ackTimeout := field 13 1 bs
          backoff := field 14 1 bs
          policy := ⟨pi, pe, pb⟩
          retry := ⟨field 18 1 bs, field 19 1 bs, field 20 1 bs⟩ }
    else none
  | _, _, _, _ => none

/-! ### Watch and origin lists (R148, R156, R173) -/

/-- The listed feed numbers, none if one is above 31. -/
def parseFeeds : List Byte → Option (List FeedNo)
  | [] => some []
  | b :: bs =>
    if h : b.toNat < 32 then (parseFeeds bs).map (fun fs => ⟨b.toNat, h⟩ :: fs) else none

/-- `n` six-byte addresses from the start of `bs`. -/
def parseOrigins : Nat → List Byte → List Addr
  | 0, _ => []
  | n + 1, bs => BitVec.ofNat 48 (beNat (bs.take 6)) :: parseOrigins n (bs.drop 6)

/-! ### Frames the part sends -/

/-- An Ethernet frame of the transport type, padded with zeros to the Ethernet minimum body of 46 bytes
(R171; the number 46 is the Ethernet standard's, assumption log 6). -/
def ethernetFrame (dst src : Addr) (body : List Byte) : List Byte :=
  be 6 dst.toNat ++ be 6 src.toNat ++ be 2 transportType ++ padTo 46 body

/-- Header bytes 0 to 13 of a unit the part sends (R171). -/
def outHeader (stamp : Tick) (len : Nat) : List Byte :=
  [3, 0] ++ be 2 0 ++ be 6 stamp.toNat ++ be 2 0 ++ be 2 len

/-- The unit of class MGMT that carries a body (R171, R172). -/
def outUnit (stamp : Tick) (body : List Byte) : List Byte :=
  outHeader stamp body.length ++ be 4 (crc32 (outHeader stamp body.length ++ body)).toNat ++ body

/-- The bytes of a transmit queue frame, without the Ethernet frame check (R163, R171). -/
def TxFrame.bytes (f : TxFrame) : List Byte :=
  ethernetFrame f.dst f.src (outUnit f.stamp f.body)

/-- A notice body (R173). -/
def noticeBody (k : NoticeKind) (subject detail : Nat) (wall : Tick) : List Byte :=
  be 2 0 ++ be 2 k.code ++ be 1 subject ++ be 1 detail ++ be 6 wall.toNat

/-- A response body (R173). -/
def responseBody (r : Request) (res : Result) (data : List Byte) : List Byte :=
  be 2 r.tag.toNat ++ be 2 r.kind.toNat ++ be 1 res.code ++ data

/-! ### The index record slot (section 10.4, R177) -/

/-- A fill run entry. -/
def FillRun.bytes (r : FillRun) : List Byte := be 2 r.start ++ be 2 r.count ++ be 1 r.kind.code ++ [0, 0, 0]

/-- Bytes 0 to 63 of a slot. -/
def IndexRecord.head (r : IndexRecord) : List Byte :=
  be 4 r.number ++ be 4 r.essenceHandle.toNat ++ be 4 r.browseHandle.toNat ++
  be 4 r.indexHandle.toNat ++ be 4 r.period ++ be 4 r.browseBytes ++ be 4 r.first ++
  be 4 r.firstLabel ++ be 8 r.offset ++ be 8 r.bytes ++ be 4 r.firstPick ++ be 2 r.frames ++
  be 2 r.picks ++ [flagByte r.final.isSome] ++ be 1 (endReasonCode r.final) ++
  be 1 r.runs.length ++ be 1 r.holes.length ++ [0, 0, 0, 0]

/-- The 4,096 bytes of a slot. -/
def IndexRecord.slot (r : IndexRecord) : List Byte :=
  padTo 4096 (r.head ++ padTo 1600 (r.runs.flatMap FillRun.bytes) ++
    padTo 800 (r.holes.flatMap (be 4)))

/-! ### WRITE messages (R124, R176) -/

/-- The bytes of a write of length `len`. -/
def WriteData.bytes (len : Nat) : WriteData → List Byte
  | .frame bs => bs
  | .reduced serial _ _ => (List.range len).map (Config.reducedByte serial)
  | .record r => r.slot

/-- The number of pieces of a write of length `len`. -/
def pieceCount (len : Nat) : Nat := (len + 8191) / 8192

/-- Piece `k` of a write, as a WRITE message. -/
def PortWrite.piece (w : PortWrite) (k : Nat) : List Byte :=
  let data := slice (k * 8192) 8192 (w.data.bytes w.length)
  [1, w.id] ++ be 2 k ++ be 4 w.handle.toNat ++ be 8 w.offset ++ be 4 w.length ++
    be 2 data.length ++ data

/-- The Ethernet frames that carry a write, in order (R124). -/
def PortWrite.frames (w : PortWrite) : List (List Byte) :=
  (List.range (pieceCount w.length)).map (fun k => ethernetFrame w.dst w.src (w.piece k))

end Sys2Proof.Machine
end

