-- ==== Sys2Proof/Machine/Flags.lean ====
section
/-! DEFINITION. Saturating counters (spec 00, 4.5), the status flags of R165 and R174, the abort
records of R134, and the values kept per write class. -/

namespace Sys2Proof.Machine

/-! ### Counters -/

/-- One event counted: a counter stops at 4,294,967,295 (spec 00, 4.5). -/
def bump (c : Counter) : Counter := if c = BitVec.allOnes 32 then c else c + 1

/-- The saturating sum of the arrival byte count (R27). -/
def satAdd (c : BitVec 32) (n : Nat) : BitVec 32 :=
  if c.toNat + n < 2 ^ 32 then BitVec.ofNat 32 (c.toNat + n) else BitVec.allOnes 32

/-- A counter as R175 sends it. -/
def counterBytes (c : Counter) : List Byte := be 4 c.toNat

/-- The per-feed counters in the order of R175. -/
def FeedCounters.bytes (c : FeedCounters) : List Byte :=
  [c.unitsReceived, c.badCheck, c.notRecording, c.throttled, c.malformed, c.duplicate, c.incomplete,
    c.noRoom, c.late, c.duplicateFrame, c.offGrid, c.overrun].flatMap counterBytes

/-- The port counters in the order of R34. -/
def PortCounters.bytes (c : PortCounters) : List Byte :=
  [c.damaged, c.foreign, c.truncated, c.unknownClass, c.badCheck, c.management,
    c.unmatched].flatMap counterBytes

/-- The Browse Unit's counters in the order of R117. -/
def BrowseCounters.bytes (c : BrowseCounters) : List Byte :=
  [c.shedPressure, c.shedQueueFull, c.shedNoBlocks, c.shedShare, c.delivered, c.discarded,
    c.unlisted].flatMap counterBytes

/-- One class's counters in the order of R140. -/
def ClassCounters.bytes (c : ClassCounters) : List Byte :=
  [c.queued, c.sends, c.acknowledged, c.busy, c.fault, c.timeouts, c.aborts, c.removed].flatMap
    counterBytes

/-! ### Per write class -/

/-- The value of a class. -/
def PerClass.get {α : Type} (p : PerClass α) : WriteClass → α
  | .index => p.index
  | .essence => p.essence
  | .browse => p.browse

/-- The values with one class's replaced by its image. -/
def PerClass.modify {α : Type} (p : PerClass α) (c : WriteClass) (g : α → α) : PerClass α :=
  match c with
  | .index => { p with index := g p.index }
  | .essence => { p with essence := g p.essence }
  | .browse => { p with browse := g p.browse }

/-! ### Status flags: bits as R174 numbers them -/

/-- The device status flags (R165). -/
inductive DevFlag where
  | pressureOn | pressureOff | holdAsserted | holdReleased | linkUp | linkDown | watchChange
  deriving DecidableEq, Repr

/-- The bit of a device flag in byte 0 of a snapshot. -/
def DevFlag.bit : DevFlag → BitVec 7
  | .pressureOn => 0x01 | .pressureOff => 0x02 | .holdAsserted => 0x04 | .holdReleased => 0x08
  | .linkUp => 0x10 | .linkDown => 0x20 | .watchChange => 0x40

/-- The per-feed status flags (R165). -/
inductive FeedFlag where
  | stateChanged | overrunSeen | lateSeen | discontinuitySeen | throttledSeen
  deriving DecidableEq, Repr

/-- The bit of a feed flag in a feed byte of a snapshot. -/
def FeedFlag.bit : FeedFlag → BitVec 5
  | .stateChanged => 0x01 | .overrunSeen => 0x02 | .lateSeen => 0x04 | .discontinuitySeen => 0x08
  | .throttledSeen => 0x10

/-- The bit of a reason in an abort record (R134, R174). -/
def AbortReason.bit : AbortReason → BitVec 5
  | .fault => 0x01 | .retriesExhausted => 0x02 | .busyShed => 0x04 | .clipFailed => 0x08
  | .feedStopped => 0x10

/-- The flags left by a snapshot clear: those not set in the snapshot (R166). -/
def snapClear {w : Nat} (now : BitVec w) (snap : Byte) : BitVec w := now &&& ~~~ (snap.setWidth w)

end Sys2Proof.Machine
end

