-- ==== Sys2Proof/Machine/Ops.lean ====
section
/-! DEFINITION. The named operations that every block uses: reading and writing the tables, counting,
raising flags, forming notices (R164), changing a feed's state (R9), and the block pool (R46, R142 to
R144). The state is each operation's last argument. -/

namespace Sys2Proof.Machine

/-! ### Tables -/

/-- The entry of a feed. -/
def State.feed (s : State) (f : FeedNo) : Feed := s.feeds[f]

/-- The record of a clip. -/
def State.clip (s : State) (c : ClipNo) : Clip := s.clips[c]

/-- A feed's open assembly contexts, in opening order. -/
def State.contextsOf (s : State) (f : FeedNo) : List Context := s.contexts[f]

/-- A feed's staging ring, in index order. -/
def State.ring (s : State) (f : FeedNo) : List RingEntry := s.rings[f]

/-- A feed's holding (R46). -/
def State.holding (s : State) (f : FeedNo) : Nat := s.smc.holdings[f]

/-- A feed's status flags (R165). -/
def State.flagsOf (s : State) (f : FeedNo) : BitVec 5 := s.mu.feedFlags[f]

/-- A feed's watch table entry (R153). -/
def State.watchEntry (s : State) (f : FeedNo) : WatchEntry := s.fw.table[f]

/-- One feed entry changed. -/
def modFeed (f : FeedNo) (g : Feed → Feed) (s : State) : State :=
  { s with feeds := s.feeds.set f (g (s.feed f)) }

/-- One clip record changed. -/
def modClip (c : ClipNo) (g : Clip → Clip) (s : State) : State :=
  { s with clips := s.clips.set c (g (s.clip c)) }

/-- A feed's contexts replaced. -/
def setContexts (f : FeedNo) (cs : List Context) (s : State) : State :=
  { s with contexts := s.contexts.set f cs }

/-- A feed's ring replaced. -/
def setRing (f : FeedNo) (r : List RingEntry) (s : State) : State :=
  { s with rings := s.rings.set f r }

/-- A feed's holding replaced. -/
def setHolding (f : FeedNo) (n : Nat) (s : State) : State :=
  { s with smc := { s.smc with holdings := s.smc.holdings.set f n } }

/-- A feed's watch table entry replaced. -/
def setWatchEntry (f : FeedNo) (e : WatchEntry) (s : State) : State :=
  { s with fw := { s.fw with table := s.fw.table.set f e } }

/-- A feed's counters changed. -/
def countFeed (f : FeedNo) (g : FeedCounters → FeedCounters) (s : State) : State :=
  modFeed f (fun e => { e with counters := g e.counters }) s

/-- One event in a feed's *not recording* counter (R28). -/
def countNotRecording (f : FeedNo) (s : State) : State :=
  countFeed f (fun k => { k with notRecording := bump k.notRecording }) s

/-- The port counters changed. -/
def countPort (g : PortCounters → PortCounters) (s : State) : State :=
  { s with port := g s.port }

/-- The Browse Unit's counters changed. -/
def countBrowse (g : BrowseCounters → BrowseCounters) (s : State) : State :=
  { s with bu := { s.bu with counters := g s.bu.counters } }

/-- One class's counters of the Storage Writer changed. -/
def countClass (cls : WriteClass) (g : ClassCounters → ClassCounters) (s : State) : State :=
  { s with sw := { s.sw with counters := s.sw.counters.modify cls g } }

/-! ### Time (R1, spec 00 4.2) -/

/-- Ticks in `ms` milliseconds. -/
def msTicks (ms : Nat) : Nat := 1200 * ms

/-- A wall time `b` is at or after a wall time `a` (R1). -/
def atOrAfter (b a : Tick) : Bool := decide (0 ≤ (b - a).toInt)

/-- `n` ticks or more have passed since `a`, the difference taken modulo 2^48. -/
def elapsed (wall a : Tick) (n : Nat) : Bool := decide (n ≤ (wall - a).toNat)

/-- The wall counter stands at a millisecond step (R1). -/
def msStep (s : State) : Bool := decide (s.wall.toNat % 1200 = 0)

/-! ### Flags and notices (R164, R165) -/

/-- A device status flag raised. -/
def raiseDev (d : DevFlag) (s : State) : State :=
  { s with mu := { s.mu with devFlags := s.mu.devFlags ||| d.bit } }

/-- A feed's flags replaced. -/
def setFeedFlags (f : FeedNo) (b : BitVec 5) (s : State) : State :=
  { s with mu := { s.mu with feedFlags := s.mu.feedFlags.set f b } }

/-- A feed's status flag raised. -/
def raiseFeed (f : FeedNo) (d : FeedFlag) (s : State) : State :=
  setFeedFlags f (s.flagsOf f ||| d.bit) s

/-- The transmit queue holds fewer than 16 frames (R163). -/
def txRoom (s : State) : Bool := decide (s.mu.tx.length < 16)

/-- A frame joins the transmit queue. -/
def pushTx (t : TxFrame) (s : State) : State :=
  { s with mu := { s.mu with tx := s.mu.tx ++ [t] } }

/-- A notice that is not sent is counted (R163, R164). -/
def countUnsent (s : State) : State :=
  { s with mu := { s.mu with noticesUnsent := bump s.mu.noticesUnsent } }

/-- The join that a notice formed now meets at its freed place (R163, R168): the waiting response joined
at this wall time and filled the queue, the MU has taken nothing since, and its request could stand in the
request queue still. -/
def joinMet (s : State) : Option Joined :=
  if txRoom s || s.mu.waiting.isSome || decide (8 ≤ s.mu.requests.length) then none else s.mu.joined

/-- The state in which the response has not joined: it goes on waiting, with its request in the request
queue, and no reset is due by it (R163, R158, R167). -/
def beforeJoin (j : Joined) (s : State) : State :=
  { s with mu := { s.mu with
      tx := s.mu.tx.dropLast
      waiting := some j.response
      requests := j.request :: s.mu.requests
      resetDue := false
      joined := none } }

/-- A join that no notice meets any more. -/
def fixJoin (s : State) : State := { s with mu := { s.mu with joined := none } }

/-- Where a notice meets the join of a waiting response at one freed place, either may be first (R163,
R168). Where the free value of Config says that the notice is, the place is free for it, and the response
goes on waiting for the next (assumption log 30). -/
def yieldPlace (s : State) : State :=
  match joinMet s with
  | none => s
  | some j => if Config.noticeFirst s.mu.sent then beforeJoin j s else s

/-- A notice for the destination `dst` joins the transmit queue, or is counted as unsent at a full one
(R163). Between the DONE response of a RESET DEVICE and its taking effect none is formed: that response is
the last frame formed before the reset (R167; DEDUCED, assumption log 9). -/
def offerNotice (dst : Addr) (k : NoticeKind) (subject detail : Nat) (s : State) : State :=
  if s.mu.resetDue then s
  else if txRoom s then pushTx ⟨dst, s.mu.address, s.wall, noticeBody k subject detail s.wall⟩ s
  else countUnsent s

/-- A notice is formed and offered to the transmit queue (R164, R163). -/
def notify (k : NoticeKind) (subject detail : Nat) (s : State) : State :=
  match s.mu.origins with
  | [] => if s.mu.resetDue then s else countUnsent s
  | dst :: _ => offerNotice dst k subject detail (yieldPlace s)

/-- A change of a feed's state (R9): flag, notice, and on entry into RECORDING the starved count 0. A
write of the state that stands raises nothing. -/
def setFeedState (f : FeedNo) (st : FeedState) (s : State) : State :=
  if (s.feed f).state = st then s
  else
    let s := modFeed f (fun e =>
      { e with state := st, starved := if st = .recording then 0 else e.starved }) s
    notify .feedState f st.code (raiseFeed f .stateChanged s)

/-- A clip's state written, with its CLIP_STATE notice (R83). -/
def setClipState (c : ClipNo) (st : ClipState) (s : State) : State :=
  notify .clipState c st.code (modClip c (fun k => { k with state := st }) s)

/-! ### Block pool and pressure (R142 to R144) -/

/-- Blocks in the pool. -/
def poolSize : Nat := 65536

/-- The raise mark of a pressure level (R143). -/
def raiseMark (level : Nat) : Nat := 32768 + 8192 * level

/-- The release mark of a pressure level (R143). -/
def releaseMark (level : Nat) : Nat := raiseMark level - 4096

/-- Free blocks. -/
def freeBlocks (s : State) : Nat := poolSize - s.smc.occupancy

/-- PRESSURE is asserted (R144). -/
def assertPressure (s : State) : State :=
  let s := { s with smc := { s.smc with pressure := true, raises := bump s.smc.raises } }
  notify .pressure 0 1 (raiseDev .pressureOn s)

/-- PRESSURE is released (R144). -/
def releasePressure (s : State) : State :=
  let s := { s with smc := { s.smc with pressure := false } }
  notify .pressure 0 0 (raiseDev .pressureOff s)

/-- A granted request of `n` blocks (R144). -/
def grantBlocks (n : Nat) (s : State) : State :=
  let s := { s with smc := { s.smc with occupancy := s.smc.occupancy + n } }
  if !s.smc.pressure && decide (raiseMark s.smc.level ≤ s.smc.occupancy) then assertPressure s
  else s

/-- A return of `n` blocks (R144); no return is made of no block. -/
def returnBlocks (n : Nat) (s : State) : State :=
  if n = 0 then s
  else
    let s := { s with smc := { s.smc with occupancy := s.smc.occupancy - n } }
    if s.smc.pressure && decide (s.smc.occupancy ≤ releaseMark s.smc.level) then releasePressure s
    else s

/-- Blocks of a feed's unplaced work returned: its holding falls with them (R46, R52, R61). -/
def returnHeld (f : FeedNo) (n : Nat) (s : State) : State :=
  returnBlocks n (setHolding f (s.holding f - n) s)

/-! ### Dropping a feed's unplaced work (R12, R53) -/

/-- One dropped context or frame: its blocks go back and it counts once as not recording. -/
def dropItem (f : FeedNo) (blocks : Nat) (s : State) : State :=
  countNotRecording f (returnHeld f blocks s)

/-- The feed's open contexts, the frames in its ring, and what the FR and the FA have handed on and no
block has taken yet, are dropped; each counts once as not recording (R12, R17, R53, R78; for the last
two, assumption log 10). -/
def dropWork (f : FeedNo) (s : State) : State :=
  let ctx := s.contextsOf f
  let ring := s.ring f
  let frames := s.handedFrames.filter (·.feed = f)
  let units := s.handedUnits.filter (·.feed = f)
  let s := setRing f [] (setContexts f [] s)
  let s := { s with
    handedFrames := s.handedFrames.filter (·.feed ≠ f)
    handedUnits := s.handedUnits.filter (·.feed ≠ f) }
  let s := ctx.foldl (fun s x => dropItem f x.blocks.length s) s
  let s := ring.foldl (fun s x => dropItem f x.frame.blocks s) s
  let s := frames.foldl (fun s x => dropItem f x.frame.blocks s) s
  units.foldl (fun s _ => dropItem f 0 s) s

/-! ### Staged set at a clip's end (R7) -/

/-- A pending staged set is written into the entry's staged fields and removed. -/
def applyPending (f : FeedNo) (s : State) : State :=
  modFeed f (fun e =>
    match e.pending with
    | none => e
    | some t => { e with cfg := { e.cfg with staged := t }, pending := none }) s

end Sys2Proof.Machine
end

