-- ==== Sys2Proof/Machine/Queue.lean ====
section
/-! DEFINITION. The write queue and its arbiter (sections 7.2 and 7.3), the two holds of a placed frame
(R115), what leaves with an entry (R121, R124), and the abort records (R134). -/

namespace Sys2Proof.Machine

/-! ### The queue's shares and the window (R120, R122) -/

/-- Entries of the non-index share in use. -/
def shareUsed (s : State) : Nat := (s.sw.queue.filter (fun e => e.cls != .index)).length

/-- Entries of the INDEX reserve in use. -/
def reserveUsed (s : State) : Nat := (s.sw.queue.filter (fun e => e.cls == .index)).length

/-- The non-index share of 224 entries has a free entry (R120). -/
def shareRoom (s : State) : Bool := decide (shareUsed s < 224)

/-- The outstanding window: the SENT entries. -/
def window (s : State) : List WriteEntry := s.sw.queue.filter (fun e => e.flight.isSome)

/-- The write of the window that holds an ID (R125). -/
def inFlight (id : BitVec 8) (s : State) : Option WriteEntry :=
  s.sw.queue.find? (fun e => e.flight.any (fun w => w.id == id))

/-- An ID is held by a write in the window or retired (R123). -/
def idTaken (s : State) (id : BitVec 8) : Bool :=
  (inFlight id s).isSome || s.sw.retired.any (fun r => r.id == id)

/-- The first ID after the last used one that is neither held nor retired (R123). -/
def nextId (s : State) : Option (BitVec 8) :=
  ((List.range 256).map (fun k => s.sw.lastUsed + 1 + BitVec.ofNat 8 k)).find?
    (fun id => !idTaken s id)

/-- The entry may be sent: QUEUED, of the class, and not in backoff (R122). -/
def sendable (cls : WriteClass) (e : WriteEntry) : Bool :=
  e.cls == cls && e.flight.isNone && e.backoffEnd.isNone

/-- The first entry of a class in its send order that may be sent: returned entries first, each part in
the order of arrival (R120). A paused class has none (R128). -/
def firstOfClass (cls : WriteClass) (s : State) : Option WriteEntry :=
  if s.sw.paused.get cls then none
  else
    match s.sw.queue.find? (fun e => sendable cls e && e.sentBefore) with
    | some e => some e
    | none => s.sw.queue.find? (fun e => sendable cls e && !e.sentBefore)

/-- The entry the arbiter takes: INDEX first, then ESSENCE, then BROWSE (R122). -/
def sendChoice (s : State) : Option WriteEntry :=
  match firstOfClass .index s with
  | some e => some e
  | none =>
    match firstOfClass .essence s with
    | some e => some e
    | none => firstOfClass .browse s

/-- The storage side may be sent to: carrier, peer, hold line released, a place in the window (R122). -/
def mayTransmit (s : State) : Bool :=
  s.storCarrier && s.sw.settings.peer.isSome && !s.holdLine && decide ((window s).length < 16)

/-- The entries of the queue changed where the number is `serial`. -/
def modEntry (serial : Nat) (g : WriteEntry → WriteEntry) (s : State) : State :=
  { s with sw := { s.sw with
      queue := s.sw.queue.map (fun e => if e.serial = serial then g e else e) } }

/-- One send (R122, R123, R124): the entry goes to SENT under the ID, and its pieces go to the port. -/
def sendOne (e : WriteEntry) (id : BitVec 8) (s : State) : State :=
  let order := s.nextSerial
  let out : PortWrite :=
    ⟨e.serial, order, id, s.sw.settings.peer.getD 0, s.sw.settings.port, e.handle, e.offset, e.length,
      e.data⟩
  let s := modEntry e.serial (fun x => { x with flight := some ⟨id, order, none⟩, sentBefore := true }) s
  let s := { s with
    nextSerial := order + 1
    sw := { s.sw with lastUsed := id, portQueue := s.sw.portQueue ++ [out] } }
  countClass e.cls (fun k => { k with sends := bump k.sends }) s

/-- Up to `n` sends, one after another, until nothing qualifies (R122). -/
def arbiterRun : Nat → State → State
  | 0, s => s
  | n + 1, s =>
    if mayTransmit s then
      match sendChoice s, nextId s with
      | some e, some id => arbiterRun n (sendOne e id s)
      | _, _ => s
    else s

/-- The arbiter judges (R122). A window of 16 places bounds the sends of one judgement by 16. -/
def arbitrate (s : State) : State := arbiterRun 16 s

/-- An entry joins the queue as QUEUED, and the arbiter judges (R120, R122). -/
def enqueue (serial : Nat) (cls : WriteClass) (clip : ClipNo) (segment : Nat) (handle : Handle)
    (offset length : Nat) (data : WriteData) (s : State) : State :=
  let e : WriteEntry :=
    { serial := serial, cls := cls, clip := clip, segment := segment, handle := handle,
      offset := offset, length := length, data := data, attempts := 0, flight := none,
      backoffEnd := none, sentBefore := false }
  let s := { s with sw := { s.sw with queue := s.sw.queue ++ [e] } }
  arbitrate (countClass cls (fun k => { k with queued := bump k.queued }) s)

/-- The entry is taken out of the queue. -/
def removeEntry (serial : Nat) (s : State) : State :=
  { s with sw := { s.sw with queue := s.sw.queue.filter (fun e => e.serial != serial) } }

/-! ### Holds on a placed frame (R115) -/

/-- A placed frame that no hold keeps returns its blocks. -/
def settlePlaced (id : Nat) (s : State) : State :=
  match s.placed.find? (fun p => p.id == id) with
  | none => s
  | some p =>
    if p.essenceHold || p.reductionHold then s
    else returnBlocks p.blocks { s with placed := s.placed.filter (fun q => q.id != id) }

/-- The essence hold of a frame ends. -/
def endEssenceHold (id : Nat) (s : State) : State :=
  settlePlaced id { s with
    placed := s.placed.map (fun p => if p.id = id then { p with essenceHold := false } else p) }

/-- The reduction hold of a frame ends. -/
def endReductionHold (id : Nat) (s : State) : State :=
  settlePlaced id { s with
    placed := s.placed.map (fun p => if p.id = id then { p with reductionHold := false } else p) }

/-! ### The data of a write that leaves the queue (R121, R124) -/

/-- Some piece of the write numbered `serial` has still to leave the port. -/
def onPort (serial : Nat) (s : State) : Bool := s.sw.portQueue.any (fun w => w.serial == serial)

/-- A return is made. A record's place in the store is counted by the late list itself. -/
def makeReturn (serial : Nat) (r : LateReturn) (s : State) : State :=
  match r with
  | .essenceHold => endEssenceHold serial s
  | .blocks n => returnBlocks n s
  | .record => s

/-- A return is made now, or waits until the write's last piece has left the port (R124). -/
def returnAfterPort (serial : Nat) (r : LateReturn) (s : State) : State :=
  if onPort serial s then { s with sw := { s.sw with late := s.sw.late ++ [(serial, r)] } }
  else makeReturn serial r s

/-- What an entry that left the queue holds is returned: the frame's essence hold (R115) or the output
blocks (R114). A record leaves the store with its segment (R96, R97). -/
def releaseData (e : WriteEntry) (s : State) : State :=
  match e.data with
  | .frame _ => returnAfterPort e.serial .essenceHold s
  | .reduced _ _ n => returnAfterPort e.serial (.blocks n) s
  | .record _ => s

/-! ### Abort records (R134) -/

/-- A reason's flag is set in a class's abort record, FEED_STOPPED with it where the feed of the clip
is OFF; a record that held no flag sends the WRITE_ABORT notice. -/
def setAbortFlag (cls : WriteClass) (clip : ClipNo) (r : AbortReason) (s : State) : State :=
  let old := s.sw.records.get cls
  let stopped := (s.feed (s.clip clip).feed).state = .off
  let extra : BitVec 5 := if stopped then AbortReason.bit .feedStopped else 0
  let s := { s with sw := { s.sw with records := s.sw.records.modify cls (fun _ => old ||| r.bit ||| extra) } }
  if old = 0 then notify .writeAbort cls.code r.code s else s

end Sys2Proof.Machine
end

