-- ==== Sys2Proof/Machine/Reducer.lean ====
section
/-! DEFINITION. The reduction queue, the start and the end of the reducer's steps, and late holes
(chapter 6). -/

namespace Sys2Proof.Machine

/-- A pick number inserted at its place in ascending order. -/
def insertPick (p : Nat) : List Nat → List Nat
  | [] => [p]
  | q :: qs => if p < q then p :: q :: qs else q :: insertPick p qs

/-- The open segment that a late hole may still be listed in (R113). -/
def lateHoleSegment (c : ClipNo) (segment : Nat) (s : State) : Option Segment :=
  match (s.clip c).openSeg with
  | none => none
  | some g =>
    if (s.clip c).state = .recording ∧ g.number = segment ∧ g.holes.length < 200 then some g else none

/-- A late hole is reported (R113): listed in the open segment, or counted as unlisted. -/
def lateHole (c : ClipNo) (segment pick : Nat) (s : State) : State :=
  match lateHoleSegment c segment s with
  | some g =>
    modClip c (fun k =>
      { k with
        holes := k.holes + 1
        openSeg := some { g with holes := insertPick pick g.holes } }) s
  | none => countBrowse (fun k => { k with unlisted := bump k.unlisted }) s

/-- Reduction entries are removed from the queue, each counted once as discarded, and the running lanes
are marked (R107). -/
def removeReductions (p : Reduction → Bool) (s : State) : State :=
  let gone := s.bu.queue.filter p
  let s := { s with bu := { s.bu with
    queue := s.bu.queue.filter (fun r => !p r)
    step := s.bu.step.map (fun st =>
      { st with lanes := st.lanes.map (fun r => if p r then { r with discard := true } else r) }) } }
  gone.foldl (fun s r =>
    endReductionHold r.frame (countBrowse (fun k => { k with discarded := bump k.discarded }) s)) s

/-- Output blocks of an entry (R109). -/
def outBlocks (r : Reduction) : Nat := (r.outSize + 65535) / 65536

/-- The duration of an entry in ticks (R112). -/
def duration (r : Reduction) (s : State) : Nat :=
  120 * (match r.cost with | .a => s.bu.durA | .b => s.bu.durB)

/-- An entry whose output blocks are refused (R109): it is counted, its frame's reduction hold ends at
once, and its late hole is reported. -/
def shedNoBlocks (r : Reduction) (s : State) : State :=
  let s := countBrowse (fun k => { k with shedNoBlocks := bump k.shedNoBlocks }) s
  lateHole r.clip r.segment r.pick (endReductionHold r.frame s)

/-- The output block requests of the entries taken for a step, in order; the entries granted are kept
(R109). The frame blocks that a refused older entry releases are back in the pool before the younger
entry's request is judged: the spec orders neither first (DESIGN CHOICE, assumption log 31). -/
def requestOutputs : List Reduction → State → State × List Reduction
  | [], s => (s, [])
  | r :: rs, s =>
    if freeBlocks s < outBlocks r then requestOutputs rs (shedNoBlocks r s)
    else
      let next := requestOutputs rs (grantBlocks (outBlocks r) s)
      (next.1, r :: next.2)

/-- An idle reducer with entries queued starts a step (R108). With every taken entry shed it is idle
again and starts anew while the queue holds an entry: `n` bounds the attempts by the queue's length. -/
def startStep : Nat → State → State
  | 0, s => s
  | n + 1, s =>
    if s.bu.step.isSome || s.bu.queue.isEmpty then s
    else
      let taken := s.bu.queue.take 2
      let s := { s with bu := { s.bu with queue := s.bu.queue.drop 2 } }
      let got := requestOutputs taken s
      match got.2 with
      | [] => startStep n got.1
      | lanes =>
        let len := (lanes.map (fun r => duration r s)).foldl max 0
        { got.1 with bu := { got.1.bu with
            step := some ⟨lanes, got.1.wall + BitVec.ofNat 48 len⟩ } }

/-- The reducer starts a step if it can (R106, R108). -/
def kickReducer (s : State) : State := startStep s.bu.queue.length s

/-! ### The end of a step (R108, R110, R111) -/

/-- A lane's result is discarded (R111): its entry is marked, or its clip is in neither RECORDING nor
DRAINING. -/
def laneDiscarded (r : Reduction) (s : State) : Bool :=
  r.discard || !((s.clip r.clip).state == .recording || (s.clip r.clip).state == .draining)

/-- A discarded lane (R111). -/
def discardLane (r : Reduction) (s : State) : State :=
  let s := countBrowse (fun k => { k with discarded := bump k.discarded }) s
  endReductionHold r.frame (returnBlocks (outBlocks r) s)

/-- A result shed at hand-off (R110). -/
def shedLane (r : Reduction) (s : State) : State :=
  let s := countBrowse (fun k => { k with shedShare := bump k.shedShare }) s
  let s := lateHole r.clip r.segment r.pick (returnBlocks (outBlocks r) s)
  endReductionHold r.frame s

/-- A result delivered as a BROWSE write (R110). What the reduced frame holds is the free value of
Config at this delivery's number. -/
def deliverLane (r : Reduction) (s : State) : State :=
  let s := countBrowse (fun k => { k with delivered := bump k.delivered }) s
  let id := s.nextSerial
  let n := s.bu.serial
  let s := { s with nextSerial := id + 1, bu := { s.bu with serial := n + 1 } }
  let s := enqueue id .browse r.clip r.segment (s.clip r.clip).browseHandle (r.pick * r.outSize)
    r.outSize (.reduced n r.pick (outBlocks r)) s
  endReductionHold r.frame s

/-- One lane at the end of its step (R110, R111). -/
def finishLane (s : State) (r : Reduction) : State :=
  if laneDiscarded r s then discardLane r s
  else if shareRoom s then deliverLane r s
  else shedLane r s

/-- The running step's end time has been reached (R108). -/
def stepDue (s : State) : Bool := s.bu.step.any (fun st => atOrAfter s.wall st.ends)

/-- A due step ends: each lane's result, older entry first, then the reducer is idle and starts a new
step if the queue holds an entry (R108). -/
def finishStep (s : State) : State :=
  match s.bu.step with
  | none => s
  | some st =>
    if stepDue s then
      kickReducer (st.lanes.foldl finishLane { s with bu := { s.bu with step := none } })
    else s

end Sys2Proof.Machine
end

