-- ==== Sys2Proof/Machine/Publish.lean ====
section
/-! DEFINITION. The Clip Manager (chapter 5): opening and ending clips, segments, the record store,
publication, and the failure of a clip. -/

namespace Sys2Proof.Machine

/-! ### Record store (R91) -/

/-- Records in the store: one for each closed segment awaiting publication, and those whose place is
returned when their last piece has left the port (R91, R124). -/
def storeCount (s : State) : Nat :=
  (s.clips.toList.map (fun k => k.closed.length)).sum +
    (s.sw.late.filter (fun x => x.2 == .record)).length

/-- The record store holds 4,096 records. -/
def storeRoom (s : State) : Bool := decide (storeCount s < 4096)

/-- The index record of a segment at its close (R91, R177). -/
def buildRecord (c : ClipNo) (g : Segment) (final : Option EndReason) (s : State) : IndexRecord :=
  let k := s.clip c
  let cfg := (s.feed k.feed).cfg
  { number := g.number
    essenceHandle := k.essenceHandle
    browseHandle := k.browseHandle
    indexHandle := k.indexHandle
    period := cfg.period
    browseBytes := 4096 * cfg.browseUnits
    first := g.first
    firstLabel := g.firstLabel
    offset := g.offset
    bytes := g.bytes
    firstPick := g.firstPick
    frames := g.frames
    picks := g.picks
    final := final
    runs := g.runs
    holes := g.holes }

/-! ### Publication (R93 to R96) -/

/-- A clip's first closed segment is eligible (R94). A segment whose INDEX write is already queued or
in flight is past eligibility. -/
def eligible (k : Clip) : Bool :=
  match k.closed with
  | [] => false
  | g :: _ => g.unanswered.isEmpty && !g.handed && k.state != .failed

/-- The first closed segment's INDEX write takes an entry of the reserve (R95). -/
def handIndex (c : ClipNo) (s : State) : State :=
  match (s.clip c).closed with
  | [] => s
  | g :: gs =>
    let serial := s.nextSerial
    let s := modClip c (fun k => { k with closed := { g with handed := true } :: gs }) s
    enqueue serial .index c g.record.number (s.clip c).indexHandle (g.record.number * 4096) 4096
      (.record g.record) { s with nextSerial := serial + 1 }

/-- The eligibility test (R94): an eligible segment is handed on at once while the reserve of 32
entries has room, and waits for an entry otherwise (R95). `extra` counts entries that still occupy the
reserve although they have left the queue (R121). -/
def testEligible (extra : Nat) (c : ClipNo) (s : State) : State :=
  if eligible (s.clip c) && decide (reserveUsed s + extra < 32) then handIndex c s else s

/-- A freed INDEX entry goes to the waiting clip with the lowest number (R95). -/
def offerIndex (s : State) : State :=
  match (List.finRange 64).find? (fun c => eligible (s.clip c)) with
  | none => s
  | some c => testEligible 0 c s

/-- The clip's segments with an acknowledged ESSENCE write taken out of their unanswered sets (R93). -/
def answered (serial : Nat) (k : Clip) : Clip :=
  { k with
    openSeg := k.openSeg.map (fun g => { g with unanswered := g.unanswered.filter (· != serial) })
    closed := k.closed.map (fun g => { g with unanswered := g.unanswered.filter (· != serial) }) }

/-! ### Failure of a clip (R97, R135) -/

/-- An ESSENCE or INDEX entry of a failed clip is removed (R135): counted, flagged unless the clip
failed for a full record store, its hold ended. -/
def removeAsFailed (e : WriteEntry) (s : State) : State :=
  let s := countClass e.cls (fun k => { k with removed := bump k.removed }) s
  let s := if (s.clip e.clip).storeFailed then s else setAbortFlag e.cls e.clip .clipFailed s
  releaseData e (removeEntry e.serial s)

/-- A freed entry's report (R121): an entry of the reserve is offered to the waiting clips at once
(R95), one of the non-index share at the end of the event (R69). -/
def reportFreed (e : WriteEntry) (s : State) : State :=
  if e.cls = .index then offerIndex s else s

/-- Entries removed as CLIP_FAILED; their freeing is reported once all of them have left the queue. -/
def removeAll (es : List WriteEntry) (s : State) : State :=
  es.foldl (fun s e => reportFreed e s) (es.foldl (fun s e => removeAsFailed e s) s)

/-- The entry is one that R135 removes when its clip fails. -/
def removable (c : ClipNo) (e : WriteEntry) : Bool :=
  e.clip == c && e.cls != .browse && e.flight.isNone

/-- Every QUEUED ESSENCE and INDEX entry of a clip is removed (R135), in the order of arrival: R135 orders
them in no way, and so leaves open which class's WRITE_ABORT notice stands first (DESIGN CHOICE, assumption
log 35). -/
def removeQueued (c : ClipNo) (s : State) : State :=
  removeAll (s.sw.queue.filter (removable c)) s

/-- The feed's recording ends without a successor: its work is dropped, any pending staged set goes to
the entry, and it takes the state `st` (R12, R15). -/
def leaveRecording (f : FeedNo) (st : FeedState) (s : State) : State :=
  let s := applyPending f (dropWork f s)
  setFeedState f st (modFeed f (fun e => { e with clip := none }) s)

/-- A clip in RECORDING or DRAINING fails (R97). `aborted` is false for a failure by a full record store
(R92). In any other state nothing changes. The Browse Unit's removal (R107) comes before the Storage
Writer's (R135), and the CLIP_STATE notice before both: no rule orders the removals, and R164 leaves open
which block's notice stands first (DESIGN CHOICE, assumption logs 33 and 37). -/
def failClip (c : ClipNo) (aborted : Bool) (s : State) : State :=
  let k := s.clip c
  if k.state = .recording ∨ k.state = .draining then
    let s := modClip c (fun k =>
      { k with closed := [], storeFailed := !aborted }) s
    let s := setClipState c .failed s
    let s := removeQueued c (removeReductions (fun r => r.clip == c) s)
    if k.state = .recording then
      let s := modClip c (fun k =>
        { k with openSeg := none, cursor := none, endReason := some .failed }) s
      leaveRecording k.feed .idle s
    else s
  else s

/-! ### Segments (R86 to R91) -/

/-- A new open segment (R87). -/
def newSegment (number first firstLabel offset firstPick : Nat) : Segment :=
  ⟨number, first, 0, firstLabel, offset, 0, [], firstPick, 0, [], []⟩

/-- A segment's record goes into the store, which has room, and the record is tested for eligibility
(R91). -/
def keepRecord (c : ClipNo) (g : Segment) (final : Option EndReason) (s : State) : State :=
  let r := buildRecord c g final s
  testEligible 0 c (modClip c (fun k =>
    { k with closed := k.closed ++ [⟨r, g.unanswered, false⟩] }) s)

/-- The pending staged set moves into the working values and the entry at a non-final close (R7), and a
changed ratio clamps the browse accumulator (R104). -/
def takeStaged (c : ClipNo) (s : State) : State :=
  let k := s.clip c
  match (s.feed k.feed).pending with
  | none => s
  | some t =>
    let changed := !(k.working.bn == t.bn && k.working.bd == t.bd)
    let s := modClip c (fun k =>
      { k with
        working := t
        cursor := k.cursor.map (fun u =>
          { u with acc := if changed then min u.acc (t.bd - 1) else u.acc }) }) s
    applyPending k.feed s

/-- The next segment opens after a non-final close (R88). -/
def openNext (c : ClipNo) (number : Nat) (s : State) : State :=
  let k := s.clip c
  let p := (s.feed k.feed).cfg.period
  modClip c (fun k =>
    { k with openSeg := some (newSegment number k.placed (labelAdvance p k.startLabel k.placed) k.bytes
        k.picks) }) s

/-- A non-final segment close (R88, R89, R91); with the record store full the clip fails (R92). The
close counts in *segments closed* either way (R82; DEDUCED, assumption log 14). -/
def midClose (c : ClipNo) (s : State) : State :=
  match (s.clip c).openSeg with
  | none => s
  | some g =>
    let room := storeRoom s
    let s := modClip c (fun k => { k with segsClosed := k.segsClosed + 1 }) s
    if room then openNext c (g.number + 1) (takeStaged c (keepRecord c g none s))
    else failClip c false s

/-! ### End of placement (R85, R90) -/

/-- A clip stops placing: its open segment closes as the final one with the end reason, and the clip
goes to DRAINING (R85, R90). With the record store full the record is not kept; `failAfterEnd` then
fails the clip once its feed has gone its way (R92). The close counts also where it is close number
4,294,967,296 of the clip, above R82's range (DESIGN CHOICE, assumption log 36). -/
def endClip (c : ClipNo) (why : EndReason) (s : State) : State :=
  let room := storeRoom s
  let seg := (s.clip c).openSeg
  let s := modClip c (fun k =>
    { k with
      openSeg := none
      cursor := none
      endReason := some why
      segsClosed := k.segsClosed + (if seg.isSome then 1 else 0) }) s
  let s :=
    match seg with
    | none => s
    | some g => if room then keepRecord c g (some why) s else s
  setClipState c .draining s

/-- The failure that follows an end of placement with the record store full (R92). `room` is the store
as the final close found it. -/
def failAfterEnd (room : Bool) (c : ClipNo) (s : State) : State :=
  if room then s else failClip c false s

/-- A recording ends with no successor asked for (R12, R15): the clip ends, the feed takes its new
state. -/
def endRecording (f : FeedNo) (c : ClipNo) (why : EndReason) (st : FeedState) (s : State) : State :=
  let room := storeRoom s
  failAfterEnd room c (leaveRecording f st (endClip c why s))

/-! ### Opening (R5, R84) -/

/-- The lowest-numbered FREE record. -/
def freeRecord (s : State) : Option ClipNo :=
  (List.finRange 64).find? (fun c => (s.clip c).state == .free)

/-- The feed's handle range can supply a clip (R5). -/
def handlesLeft (cfg : FeedConfig) : Bool := decide (cfg.handleNext.toNat + 2 ≤ cfg.handleCeiling.toNat)

/-- The record that an opening for a feed would take now, if it can take place (R5, R84). -/
def openable (f : FeedNo) (s : State) : Option ClipNo :=
  if handlesLeft (s.feed f).cfg then freeRecord s else none

/-- Handle next after an opening (R5). -/
def handleAfter (h : Handle) : Handle :=
  if h.toNat = 4294967293 then 4294967295 else h + 3

/-- The cursor of a clip as it opens (R57, R102). -/
def newCursor (origin : Option (Tick × Tick)) (t : StagedSet) : Cursor :=
  ⟨origin, 0, none, 0, t.bd - t.bn, 0⟩

/-- The record of a clip as it opens (R84). A clip with an origin is a successor and enters RECORDING
at once. -/
def newClip (f : FeedNo) (label : Nat) (origin : Option (Tick × Tick)) (cfg : FeedConfig) : Clip :=
  let h := cfg.handleNext
  { Clip.freeRecord with
    feed := f
    state := if origin.isSome then .recording else .opened
    essenceHandle := h
    browseHandle := h + 1
    indexHandle := h + 2
    origin := origin.map Prod.fst
    startLabel := label
    working := cfg.staged
    openSeg := some (newSegment 0 0 label 0 0)
    cursor := some (newCursor origin cfg.staged) }

/-- A clip is opened for a feed on a FREE record (R84): the handles leave the entry's range, the record
becomes the feed's current clip, and CLIP_STATE is sent. The feed's state is the caller's. -/
def openClipOn (c : ClipNo) (f : FeedNo) (label : Nat) (origin : Option (Tick × Tick)) (s : State) :
    State :=
  let cfg := (s.feed f).cfg
  let k := newClip f label origin cfg
  let s := modFeed f (fun e =>
    { e with clip := some c, cfg := { e.cfg with handleNext := handleAfter cfg.handleNext } }) s
  notify .clipState c k.state.code (modClip c (fun _ => k) s)

/-- A clip is opened in OPEN and the feed goes to RECORDING (R11, R14, R16). -/
def openForFeed (c : ClipNo) (f : FeedNo) (label : Nat) (s : State) : State :=
  setFeedState f .recording (openClipOn c f label none s)

/-- The entry's own start label as a count (R79). -/
def ownLabel (f : FeedNo) (s : State) : Nat :=
  labelCount (s.feed f).cfg.period (s.feed f).cfg.startLabel

/-- A STALLED feed's open is tried (R14). -/
def retryStalled (f : FeedNo) (s : State) : State :=
  match openable f s with
  | none => s
  | some c => openForFeed c f (ownLabel f s) s

/-! ### The clip reaches CLOSED (R96) -/

/-- The INDEX write of a clip's first closed segment is acknowledged (R96). A failed clip is left as it
is. At the final segment's OK the CLIP_STATE notice comes before the removal of the clip's reductions (R107)
and a PRESSURE notice that their blocks may call for: R164 lets the two stand in either order (DESIGN CHOICE,
assumption log 37). The record counts also above R82's range (log 36). -/
def indexOk (e : WriteEntry) (s : State) : State :=
  let k := s.clip e.clip
  if k.state = .failed then s
  else
    match k.closed with
    | [] => s
    | g :: gs =>
      let s := modClip e.clip (fun k =>
        { k with closed := gs, frontier := k.frontier + g.record.frames, records := k.records + 1 }) s
      let s := returnAfterPort e.serial .record s
      if g.record.final.isSome then
        removeReductions (fun r => r.clip == e.clip) (setClipState e.clip .closed s)
      else testEligible 1 e.clip s

end Sys2Proof.Machine
end

