-- ==== Sys2Proof/Machine/Placement.lean ====
section
/-! DEFINITION. The Placement Engine (chapter 4) and the browse step (section 6.1): placement
arithmetic, the ring, placing, fill, discontinuity, the clip limit, and the meanings of
FRAME_ADMISSION, REORDER_HOLD_EXPIRY and PACING_FILL. -/

namespace Sys2Proof.Machine

/-! ### Placement arithmetic (R59, R60) -/

/-- The signed stamp difference d plus floor(p/2). -/
def gridOffset (p : Nat) (o st : Tick) : Int := (st - o).toInt + ((p / 2 : Nat) : Int)

/-- The index of a stamp against an origin; none where the frame is late (R59). -/
def indexOf (p : Nat) (o st : Tick) : Option Nat :=
  if gridOffset p o st < 0 then none
  else
    let n := (gridOffset p o st / (p : Int)).toNat
    if 2 ^ 32 ≤ n then none else some n

/-- The jitter of a stamp at an index (R60). -/
def jitter (p : Nat) (o st : Tick) (n : Nat) : Int := (st - o).toInt - ((n * p : Nat) : Int)

/-- The frame is off-grid at its index (R60). -/
def offGrid (p : Nat) (o st : Tick) (n : Nat) : Bool := decide (p / 4 < (jitter p o st n).natAbs)

/-! ### A feed's clip and cursor -/

/-- The current clip of a feed in RECORDING with its cursor. -/
def recordingClip (f : FeedNo) (s : State) : Option (ClipNo × Cursor) :=
  if (s.feed f).state = .recording then
    match (s.feed f).clip with
    | none => none
    | some c => (s.clip c).cursor.map (fun u => (c, u))
  else none

/-- A clip's cursor changed. -/
def modCursor (c : ClipNo) (g : Cursor → Cursor) (s : State) : State :=
  modClip c (fun k => { k with cursor := k.cursor.map g }) s

/-- The clip failed during a placement (R92): the steps not yet taken are not taken. -/
def hasFailed (c : ClipNo) (s : State) : Bool := (s.clip c).state == .failed

/-! ### Discarding a frame -/

/-- A frame discarded by the PE returns its blocks (R61). -/
def discardFrame (f : FeedNo) (fr : Frame) (s : State) : State := returnHeld f fr.blocks s

/-- A frame discarded as late (R61, R72, R76). -/
def discardLate (f : FeedNo) (fr : Frame) (s : State) : State :=
  let s := countFeed f (fun k => { k with late := bump k.late }) (discardFrame f fr s)
  raiseFeed f .lateSeen s

/-- A frame discarded for a duplicate index (R61, R72). -/
def discardDuplicate (f : FeedNo) (fr : Frame) (s : State) : State :=
  countFeed f (fun k => { k with duplicateFrame := bump k.duplicateFrame }) (discardFrame f fr s)

/-- A frame discarded as overrun (R62). -/
def discardOverrun (f : FeedNo) (fr : Frame) (s : State) : State :=
  let s := countFeed f (fun k => { k with overrun := bump k.overrun }) (discardFrame f fr s)
  raiseFeed f .overrunSeen s

/-- An admitted frame is counted where it is off-grid (R60, R61). -/
def countOffGrid (f : FeedNo) (isOff : Bool) (s : State) : State :=
  if isOff then countFeed f (fun k => { k with offGrid := bump k.offGrid }) s else s

/-! ### The browse step (R103, R105, R106) -/

/-- The outcome of a browse step, as the CM is told it. -/
inductive BrowseOutcome where
  | notPick
  | served (pick : Nat)
  | hole (pick : Nat)
  deriving DecidableEq, Repr

/-- What is placed at an index: an essence frame of a size with the number of its ESSENCE write, or a
fill. -/
inductive Placed where
  | essence (size serial : Nat)
  | fill (k : FillKind)
  deriving DecidableEq, Repr

/-- The accumulator after a RATIO step and whether the step is a pick (R103). -/
def ratioStep (bn bd acc : Nat) : Nat × Bool :=
  if bd ≤ acc + bn then (acc + bn - bd, true) else (acc + bn, false)

/-- Whether the index is a pick, and the accumulator after the step (R103). -/
def pickStep (w : StagedSet) (acc : Nat) (what : Placed) (mark : Bool) : Nat × Bool :=
  match w.mode with
  | .off => (acc, false)
  | .ratio => ratioStep w.bn w.bd acc
  | .marked => (acc, match what with | .essence _ _ => mark | .fill _ => false)

/-- A pick is judged (R105): the first line of its table that applies decides. A served pick joins the
reduction queue (R106); its segment is named after the count. -/
def judgePick (f : FeedNo) (c : ClipNo) (pick : Nat) (what : Placed) (s : State) :
    State × BrowseOutcome :=
  match what with
  | .fill _ => (s, .hole pick)
  | .essence _ serial =>
    if s.smc.pressure then
      (countBrowse (fun k => { k with shedPressure := bump k.shedPressure }) s, .hole pick)
    else if 64 ≤ s.bu.queue.length then
      (countBrowse (fun k => { k with shedQueueFull := bump k.shedQueueFull }) s, .hole pick)
    else
      let cfg := (s.feed f).cfg
      let r : Reduction := ⟨f, c, 0, pick, serial, cfg.cost, 4096 * cfg.browseUnits, false⟩
      ({ s with bu := { s.bu with queue := s.bu.queue ++ [r] } }, .served pick)

/-- The browse step for one index (R103, R105). -/
def browseStep (f : FeedNo) (c : ClipNo) (what : Placed) (mark : Bool) (s : State) :
    State × BrowseOutcome :=
  match (s.clip c).cursor with
  | none => (s, .notPick)
  | some u =>
    let p := pickStep (s.clip c).working u.acc what mark
    if p.2 then
      judgePick f c u.picks what (modCursor c (fun u => { u with acc := p.1, picks := u.picks + 1 }) s)
    else (modCursor c (fun u => { u with acc := p.1 }) s, .notPick)

/-- The reduction entry of a frame takes the segment that the CM named (R105, R106). -/
def nameSegment (serial segment : Nat) (s : State) : State :=
  { s with bu := { s.bu with
      queue := s.bu.queue.map (fun r => if r.frame = serial then { r with segment := segment } else r) } }

/-! ### The segment count (R86, R87, R89) -/

/-- A filled index extends the last fill run: it is of the same kind and ends just before (R87). -/
def extendsRun (pos : Nat) (k : FillKind) (runs : List FillRun) : Bool :=
  match runs.getLast? with
  | none => false
  | some r => r.kind == k && r.start + r.count == pos

/-- The fill-run list with one filled index at a position (R87). -/
def addFill (pos : Nat) (k : FillKind) (runs : List FillRun) : List FillRun :=
  if extendsRun pos k runs then
    runs.dropLast ++ (runs.getLast?.map (fun r => { r with count := r.count + 1 })).toList
  else runs ++ [⟨pos, 1, k⟩]

/-- The index needs a 201st entry in the fill-run list or the hole list (R89). -/
def overflows (g : Segment) (what : Placed) (out : BrowseOutcome) : Bool :=
  (match what with
    | .essence _ _ => false
    | .fill k => !extendsRun g.frames k g.runs && decide (200 ≤ g.runs.length)) ||
  (match out with
    | .hole _ => decide (200 ≤ g.holes.length)
    | _ => false)

/-- The open segment with one index counted (R86 steps 2 to 5). -/
def countSegment (g : Segment) (what : Placed) (out : BrowseOutcome) : Segment :=
  { g with
    frames := g.frames + 1
    bytes := g.bytes + (match what with | .essence z _ => z | .fill _ => 0)
    unanswered := g.unanswered ++ (match what with | .essence _ w => [w] | .fill _ => [])
    runs := match what with | .essence _ _ => g.runs | .fill k => addFill g.frames k g.runs
    picks := g.picks + (match out with | .notPick => 0 | _ => 1)
    holes := match out with | .hole p => g.holes ++ [p] | _ => g.holes }

/-- The clip record with one index counted (R86 steps 2 to 5). -/
def countClip (what : Placed) (out : BrowseOutcome) (k : Clip) : Clip :=
  { k with
    placed := k.placed + 1
    essence := k.essence + (match what with | .essence _ _ => 1 | .fill _ => 0)
    repeats := k.repeats + (match what with | .fill .rep => 1 | _ => 0)
    voids := k.voids + (match what with | .fill .void => 1 | _ => 0)
    bytes := k.bytes + (match what with | .essence z _ => z | .fill _ => 0)
    picks := k.picks + (match out with | .notPick => 0 | _ => 1)
    holes := k.holes + (match out with | .hole _ => 1 | _ => 0)
    openSeg := k.openSeg.map (fun g => countSegment g what out) }

/-- The short close before an index that would overflow a list (R86 step 1, R89). -/
def shortClose (c : ClipNo) (what : Placed) (out : BrowseOutcome) (s : State) : State :=
  match (s.clip c).openSeg with
  | none => s
  | some g => if overflows g what out then midClose c s else s

/-- The close at S (R86 step 6, R88). -/
def closeAtS (c : ClipNo) (s : State) : State :=
  match (s.clip c).openSeg with
  | none => s
  | some g => if g.frames = (s.clip c).working.segLen then midClose c s else s

/-- The number of the clip's open segment. -/
def openNumber (c : ClipNo) (s : State) : Nat :=
  match (s.clip c).openSeg with
  | none => 0
  | some g => g.number

/-- The browse step and the segment count of one index (R66 steps 2 and 3), up to the failure of the
clip by a full record store (R92), with the number of the segment that the CM names (R86). -/
def countIndex (f : FeedNo) (c : ClipNo) (what : Placed) (mark : Bool) (s : State) : State × Nat :=
  let b := browseStep f c what mark s
  let s := shortClose c what b.2 b.1
  let seg := openNumber c s
  if hasFailed c s then (s, seg)
  else
    let s := match what with
      | .essence _ serial => nameSegment serial seg s
      | .fill _ => s
    (closeAtS c (modClip c (countClip what b.2) s), seg)

/-! ### Recomputing the ring (R57, R72) -/

/-- An entry put at its place in index order (R57). -/
def insertEntry (e : RingEntry) : List RingEntry → List RingEntry
  | [] => [e]
  | x :: xs => if e.index < x.index then e :: x :: xs else x :: insertEntry e xs

/-- One entry of the ring taken against the new origin, beside the entries kept so far, which stay in
index order. -/
def recomputeEntry (f : FeedNo) (p : Nat) (o : Tick) (next : Nat) (st : State × List RingEntry)
    (e : RingEntry) : State × List RingEntry :=
  match indexOf p o e.frame.stamp with
  | none => (discardLate f e.frame st.1, st.2)
  | some n =>
    if n < next then (discardLate f e.frame st.1, st.2)
    else if st.2.any (fun k => k.index == n) then (discardDuplicate f e.frame st.1, st.2)
    else (st.1, insertEntry ⟨n, e.frame⟩ st.2)

/-- The feed's ring recomputed against the origin of its current clip (R72). -/
def recomputeRing (f : FeedNo) (s : State) : State :=
  match recordingClip f s with
  | none => s
  | some (_, u) =>
    match u.origin with
    | none => s
    | some (o, _) =>
      let got := (s.ring f).foldl (recomputeEntry f (s.feed f).cfg.period o u.next) (s, [])
      setRing f got.2 got.1

/-! ### Ends that ask for a successor (R13, R71, R73, R75) -/

/-- The clip ends and a successor with the origin `origin` is asked for. If none can open, the feed
stalls (R73). A record store that was full at the final close fails the old clip last (R92). -/
def succeedClip (f : FeedNo) (c : ClipNo) (why : EndReason) (origin : Tick × Tick) (s : State) :
    State :=
  let room := storeRoom s
  let k := s.clip c
  let label := labelAdvance (s.feed f).cfg.period k.startLabel k.placed
  let s := endClip c why s
  let s := if why = .discontinuity then raiseFeed f .discontinuitySeen s else s
  let s := applyPending f s
  let s :=
    match openable f s with
    | some d => recomputeRing f (openClipOn d f label (some origin) s)
    | none => leaveRecording f .stalled s
  failAfterEnd room c s

/-- The clip limit and the action taken there (R74). -/
def limitOf (cfg : FeedConfig) : Nat × AtLimit :=
  match cfg.clipLimit with
  | some l => (l, cfg.atLimit)
  | none => (4294967295, .stop)

/-- The limit acts where N has reached it (R74, R75). Where it acts inside a pacing run and no successor
takes the run on, frames in the ring that the run has already passed leave as not recording with the rest of
the ring (R73, R74) and not as late (R70): R76 looks for late entries only after the run, and R70 names no
moment (DESIGN CHOICE, assumption log 38). -/
def limitTest (f : FeedNo) (c : ClipNo) (s : State) : State :=
  match (s.clip c).cursor with
  | none => s
  | some u =>
    let lim := limitOf (s.feed f).cfg
    if u.next = lim.1 then
      match lim.2, u.origin with
      | .split, some (o, w) =>
        let step : Tick := BitVec.ofNat 48 (lim.1 * (s.feed f).cfg.period)
        succeedClip f c .limit (o + step, w + step) s
      | _, _ => endRecording f c .limit .idle s
    else s

/-! ### Placing (R66, R68, R70) -/

/-- One filled index is placed at N (R70); `head` says that it is a VOID head leaving the ring (R68). -/
def placeFill (f : FeedNo) (c : ClipNo) (k : FillKind) (head : Bool) (s : State) : State :=
  let s := (countIndex f c (.fill k) false s).1
  if hasFailed c s then s
  else
    let s := if head then setRing f (s.ring f).tail s else s
    limitTest f c (modCursor c (fun u => { u with next := u.next + 1 }) s)

/-- A ready MEDIA head is placed at N (R66); the caller has seen that the share has a free entry. The
frame's reduction may start once its entry names its segment (assumption log 12). -/
def placeMedia (f : FeedNo) (c : ClipNo) (e : RingEntry) (s : State) : State :=
  let id := s.nextSerial
  let fr := e.frame
  let counted := countIndex f c (.essence fr.size id) fr.mark { s with nextSerial := id + 1 }
  let s := counted.1
  if hasFailed c s then s
  else
    let off := match (s.clip c).cursor with | none => 0 | some u => u.offset
    let served := s.bu.queue.any (fun r => r.frame == id)
    let s := { s with placed := s.placed ++ [⟨id, fr.size, fr.blocks, fr.data, true, served⟩] }
    let s := setHolding f (s.holding f - fr.blocks) (setRing f (s.ring f).tail s)
    let s := modCursor c (fun u =>
      { u with offset := u.offset + fr.size, lastEssence := some u.next, next := u.next + 1 }) s
    let s := enqueue id .essence c counted.2 (s.clip c).essenceHandle off fr.size (.frame fr.data) s
    limitTest f c (kickReducer s)

/-- A fill run of `n` indices of kind `k` (R70). Past a split the rest of the run goes on in the
successor as VOID (R75); it is dropped where the feed leaves RECORDING (R73, R74, R92). -/
def fillRun (f : FeedNo) : Nat → FillKind → State → State
  | 0, _, s => s
  | n + 1, k, s =>
    match recordingClip f s with
    | none => s
    | some (c, _) =>
      let s' := placeFill f c k false s
      fillRun f n (if (s'.feed f).clip = some c then k else .void) s'

/-- The kind of a run placed now (R70). -/
def runKind (u : Cursor) : FillKind := if u.lastEssence.isSome then .rep else .void

/-! ### The head of the ring (R63 to R65) -/

/-- A head's hold has run out: its commit lies 1,200 × H ticks or more in the past (R64). -/
def holdExpired (f : FeedNo) (e : RingEntry) (s : State) : Bool :=
  elapsed s.wall e.frame.commit (msTicks (s.feed f).cfg.hold)

/-- The hold of the ring's head ends (R65): fill up to the fill limit, a discontinuity beyond it
(R71). -/
def endHold (f : FeedNo) (s : State) : State :=
  match recordingClip f s, s.ring f with
  | some (c, u), e :: _ =>
    let gap := e.index - u.next
    if gap ≤ (s.clip c).working.fillLimit then fillRun f gap (runKind u) s
    else succeedClip f c .discontinuity (e.frame.stamp, e.frame.commit) s
  | _, _ => s

/-- The head as the PE judges it (R63, R67). -/
inductive Head where
  /-- The ring is empty or the feed does not record. -/
  | absent
  /-- The head is in reorder hold. -/
  | held (e : RingEntry)
  /-- A ready MEDIA head that finds the share full. -/
  | waiting (e : RingEntry)
  /-- A ready head that can be placed now. -/
  | ready (c : ClipNo) (e : RingEntry)
  deriving DecidableEq, Repr

/-- The state of a feed's head (R63). -/
def headOf (f : FeedNo) (s : State) : Head :=
  match recordingClip f s, s.ring f with
  | some (c, u), e :: _ =>
    if u.next < e.index then .held e
    else
      match e.frame.kind with
      | .void => .ready c e
      | .media => if shareRoom s then .ready c e else .waiting e
  | _, _ => .absent

/-- A ready head is placed (R66, R68). -/
def placeHead (f : FeedNo) (c : ClipNo) (e : RingEntry) (s : State) : State :=
  match e.frame.kind with
  | .void => placeFill f c .void true s
  | .media => placeMedia f c e s

/-- A hold that has already run out when its frame becomes the head ends at that moment (R64). -/
def endOldHold (f : FeedNo) (s : State) : State :=
  match headOf f s with
  | .held e => if holdExpired f e s then endHold f s else s
  | _ => s

/-- Placement continues down the ring (R63), at most `n` heads. -/
def advanceRun (f : FeedNo) : Nat → State → State
  | 0, s => s
  | n + 1, s =>
    let s := endOldHold f s
    match headOf f s with
    | .ready c e => advanceRun f n (placeHead f c e s)
    | _ => s

/-- The head is judged and placement continues down the ring (R63). Each placed head leaves the ring,
so the ring's length bounds the heads placed. -/
def advance (f : FeedNo) (s : State) : State := advanceRun f (s.ring f).length s

/-! ### Freed entries (R69) -/

/-- The lowest-numbered feed whose head waits for an entry and could now be placed (R69). -/
def firstWaiting (s : State) : Option FeedNo :=
  (List.finRange 32).find? (fun f =>
    match headOf f s with
    | .ready _ e => e.frame.kind == .media
    | _ => false)

/-- Free entries are offered to waiting heads, at most `n` times. An entry that an offered head frees, by
its own clip's failure (R92), or that is left between two offers goes to the next waiting head before the
results of a step that is due: R69 and R116 leave that order open (DESIGN CHOICE, assumption log 30). -/
def offerRun : Nat → State → State
  | 0, s => s
  | n + 1, s =>
    match firstWaiting s with
    | none => s
    | some f => offerRun n (advance f s)

/-- Free entries are offered to the waiting heads in ascending feed number (R69).
Each offer places at least one frame, so the frames in the rings bound the offers. -/
def offerShare (s : State) : State :=
  offerRun ((s.rings.toList.map List.length).sum) s

/-- The results of a step that ends at this wall time and a waiting head reach a freed entry together
(R69, R116). -/
def resultsMeetHead (s : State) : Bool := stepDue s && (firstWaiting s).isSome

/-- The entries freed in this event, by an answer, an abort or a removal as CLIP_FAILED, are offered to
the waiting heads (R69). Where the results of a step that ends now reach them together with a head, the
free value of Config says whether the results are queued first, and the heads then find what is left
(R116; assumption log 30). -/
def offerFreed (s : State) : State :=
  offerShare (if resultsMeetHead s && Config.resultFirst s.nextSerial then finishStep s else s)

/-! ### Admission (R57, R58, R61, R62) -/

/-- The first frame of a clip in OPEN becomes its origin and is judged as the head (R58). -/
def takeOrigin (f : FeedNo) (c : ClipNo) (fr : Frame) (s : State) : State :=
  let s := modClip c (fun k => { k with origin := some fr.stamp }) s
  let s := modCursor c (fun u => { u with origin := some (fr.stamp, fr.commit) }) s
  advance f (setRing f [⟨0, fr⟩] (setClipState c .recording s))

/-- The frame is admitted at index `n` (R61 step 4); as the new head it is judged (R63). -/
def admitAt (f : FeedNo) (fr : Frame) (n : Nat) (isOff : Bool) (s : State) : State :=
  let isHead := (s.ring f).all (fun x => decide (n < x.index))
  let s := countOffGrid f isOff (setRing f (insertEntry ⟨n, fr⟩ (s.ring f)) s)
  if isHead then advance f s else s

/-- The arriving frame is the contender (R62): it is treated as the head, its hold is cut and it is
placed without occupying a slot. It counts as off-grid once it has been placed, and so not where its clip has
failed before that (R92). -/
def cutForArrival (f : FeedNo) (fr : Frame) (n : Nat) (isOff : Bool) (s : State) : State :=
  let s := endHold f (setRing f (⟨n, fr⟩ :: s.ring f) s)
  match headOf f s with
  | .ready c e =>
    let s := placeHead f c e s
    if hasFailed c s && (s.clip c).endReason == some .failed then s
    else advance f (countOffGrid f isOff s)
  | _ => s

/-- The head's hold may be cut for an arriving frame of kind `k` at index `n` (R62): the head is in
reorder hold and the contender can be placed. -/
def mayCut (f : FeedNo) (k : FrameKind) (n : Nat) (s : State) : Bool :=
  match headOf f s with
  | .held e => ((if n < e.index then k else e.frame.kind) == .void) || shareRoom s
  | _ => false

/-- The PE judges a frame (R61, R62), again from step 1 after a cut hold; `again` bounds the judgements
(the second finds a free slot). -/
def judgeFrame (f : FeedNo) (fr : Frame) : Nat → State → State
  | 0, s => discardOverrun f fr s
  | again + 1, s =>
    match recordingClip f s with
    | none => countNotRecording f (discardFrame f fr s)
    | some (c, u) =>
      match u.origin with
      | none => takeOrigin f c fr s
      | some (o, _) =>
        let p := (s.feed f).cfg.period
        match indexOf p o fr.stamp with
        | none => discardLate f fr s
        | some n =>
          let isOff := offGrid p o fr.stamp n
          if n < u.next then discardLate f fr s
          else if (s.ring f).any (fun x => x.index == n) then discardDuplicate f fr s
          else if (s.ring f).length < (s.feed f).cfg.depth then admitAt f fr n isOff s
          else if mayCut f fr.kind n s then
            if (s.ring f).all (fun x => decide (n < x.index)) then cutForArrival f fr n isOff s
            else judgeFrame f fr again (advance f (endHold f s))
          else discardOverrun f fr s

/-! ### The meanings -/

/-- A step of the part: while the reset line is asserted the part is stopped and nothing happens
(R1). -/
def running (g : State → State) (s : State) : Host.Outcome State Fault Refusal :=
  .next (if s.resetLine then s else g s)

/-- The oldest frame of a kind handed on for a feed. -/
def nextFrame (f : FeedNo) (k : FrameKind) (s : State) : Option HandedFrame :=
  s.handedFrames.find? (fun h => h.feed == f && h.frame.kind == k)

/-- The PE takes the oldest frame of a kind handed on for a feed (R50, R61). -/
def admission (f : FeedNo) (k : FrameKind) (s : State) : State :=
  match nextFrame f k s with
  | none => s
  | some h =>
    let s := { s with handedFrames := s.handedFrames.erase h }
    offerFreed (judgeFrame f h.frame 2 s)

/-- FRAME_ADMISSION (R61). -/
def execFrameAdmission (f : FeedNo) (k : FrameKind) (s : State) : Host.Outcome State Fault Refusal :=
  running (admission f k) s

/-- The feed's head is in reorder hold and its hold has run out at this millisecond step (R64). -/
def holdDue (f : FeedNo) (s : State) : Bool :=
  msStep s &&
    (match headOf f s with
    | .held e => holdExpired f e s
    | _ => false)

/-- The head's hold ends by expiry (R64, R65). -/
def holdExpiry (f : FeedNo) (s : State) : State :=
  if holdDue f s then offerFreed (advance f s) else s

/-- REORDER_HOLD_EXPIRY (R64). -/
def execReorderHoldExpiry (f : FeedNo) (s : State) : Host.Outcome State Fault Refusal :=
  running (holdExpiry f) s

/-- The pacing target T (R76); none where the wall difference is negative. -/
def pacingTarget (cfg : FeedConfig) (wall w0 : Tick) : Option Int :=
  if (wall - w0).toInt < 0 then none
  else some ((wall - w0).toInt / (cfg.period : Int) - (cfg.pacing : Int))

/-- Ring entries below N are discarded as late (R76). -/
def dropPassed (f : FeedNo) (s : State) : State :=
  match recordingClip f s with
  | none => s
  | some (_, u) =>
    let gone := (s.ring f).filter (fun e => decide (e.index < u.next))
    let s := setRing f ((s.ring f).filter (fun e => !decide (e.index < u.next))) s
    gone.foldl (fun s e => discardLate f e.frame s) s

/-- The PE fills the clip up to the pacing target (R76, R77). -/
def pace (f : FeedNo) (s : State) : State :=
  match recordingClip f s with
  | none => s
  | some (_, u) =>
    match u.origin with
    | none => s
    | some (_, w0) =>
      match pacingTarget (s.feed f).cfg s.wall w0 with
      | none => s
      | some t =>
        if t < (u.next : Int) then s
        else advance f (dropPassed f (fillRun f (t - u.next + 1).toNat (runKind u) s))

/-- The PE takes a feed's pacing fill request (R76). -/
def takePacing (f : FeedNo) (s : State) : State :=
  if f ∈ s.fw.pacing then
    offerFreed (pace f { s with fw := { s.fw with pacing := s.fw.pacing.erase f } })
  else s

/-- PACING_FILL (R76). -/
def execPacingFill (f : FeedNo) (s : State) : Host.Outcome State Fault Refusal :=
  running (takePacing f) s

end Sys2Proof.Machine
end

