-- ==== Sys2Proof/Machine/Assembly.lean ====
section
/-! DEFINITION. The Frame Assembler (chapter 3): the meanings of FA_TAKE_UNIT and CONTEXT_EXPIRY. -/

namespace Sys2Proof.Machine

/-! ### Reading a context (R37, R44) -/

/-- A unit number is in a context's coverage. -/
def covers (x : Context) (k : Nat) : Bool := x.units.any (fun u => u.1 == k)

/-- The highest covered number; none for an empty coverage (R37). -/
def highest (x : Context) : Option Nat :=
  x.units.foldl (fun m u => match m with | none => some u.1 | some h => some (max h u.1)) none

/-- The byte that the staging blocks of a context hold at a frame offset (R44, R48): none where no
recorded unit reaches. -/
def Context.byteAt (unitSize off : Nat) (x : Context) : Option Byte :=
  match x.units.find? (fun u => u.1 == off / unitSize) with
  | none => none
  | some u => u.2[off % unitSize]?

/-- The block positions that a unit touches (R44). -/
def touched (unitSize k len : Nat) : List Nat :=
  (List.range ((k * unitSize + len - 1) / 65536 + 1 - k * unitSize / 65536)).map
    (fun i => k * unitSize / 65536 + i)

/-- The positions a unit touches that are still empty in its context (R45). -/
def missing (unitSize : Nat) (u : HandedUnit) (x : Context) : List Nat :=
  (touched unitSize u.number u.length).filter (fun b => !x.blocks.contains b)

/-- The length tests of R39. -/
def lengthOk (unitSize : Nat) (last : Bool) (len : Nat) : Bool :=
  if last then decide (1 ≤ len) && decide (len ≤ unitSize) else decide (len = unitSize)

/-- The outcome of the numbering tests of R43. -/
inductive Numbering where
  | passes | badUnit | badFrame
  deriving DecidableEq, Repr

/-- The numbering tests of R43 for a unit that is no duplicate. -/
def numbering (x : Context) (last : Bool) (k : Nat) : Numbering :=
  match last, x.last with
  | false, none => .passes
  | false, some (m, _) => if k < m then .passes else .badUnit
  | true, none =>
    match highest x with
    | none => .passes
    | some h => if h < k then .passes else .badFrame
  | true, some _ => .badFrame

/-- A unit put at its place in ascending order of number. -/
def insertUnit (u : Nat × List Byte) : List (Nat × List Byte) → List (Nat × List Byte)
  | [] => [u]
  | x :: xs => if u.1 < x.1 then u :: x :: xs else x :: insertUnit u xs

/-- A unit recorded in its context (R48), with the blocks it was granted (R45). -/
def recordUnit (u : HandedUnit) (granted : List Nat) (x : Context) : Context :=
  { x with
    units := insertUnit (u.number, u.payload) x.units
    last := if u.last then some (u.number, u.length) else x.last
    mark := x.mark || u.mark
    blocks := x.blocks ++ granted }

/-- A context is complete (R49): its coverage holds every number from 0 to the last one. -/
def complete (x : Context) : Bool :=
  match x.last with
  | none => false
  | some (m, _) => (List.range (m + 1)).all (covers x)

/-- The frame that a complete context commits (R49). -/
def commitFrame (unitSize : Nat) (wall : Tick) (x : Context) : Frame where
  stamp := x.stamp
  kind := .media
  mark := x.mark
  size := match x.last with | none => 0 | some (m, len) => m * unitSize + len
  blocks := x.blocks.length
  data := x.units.flatMap Prod.snd
  commit := wall

/-- A context as it opens (R40). -/
def newContext (u : HandedUnit) : Context := ⟨u.stamp, u.arrival, [], none, false, []⟩

/-! ### Taking a unit (R38) -/

/-- A unit counted as malformed (R39, R43). -/
def countMalformed (f : FeedNo) (s : State) : State :=
  countFeed f (fun k => { k with malformed := bump k.malformed }) s

/-- A context counted as incomplete and its blocks returned (R41, R51, R52). -/
def abandonIncomplete (f : FeedNo) (x : Context) (s : State) : State :=
  countFeed f (fun k => { k with incomplete := bump k.incomplete }) (returnHeld f x.blocks.length s)

/-- The earliest of four open contexts is abandoned (R41). -/
def evict (f : FeedNo) (s : State) : State :=
  match s.contextsOf f with
  | [] => s
  | x :: xs => if 4 ≤ (x :: xs).length then abandonIncomplete f x (setContexts f xs s) else s

/-- The context of a unit's stamp, opened where there is none (R40, R41). -/
def findOrOpen (f : FeedNo) (u : HandedUnit) (s : State) : State :=
  if (s.contextsOf f).any (fun x => x.stamp == u.stamp) then s
  else
    let s := evict f s
    setContexts f (s.contextsOf f ++ [newContext u]) s

/-- The feed's context of a stamp. -/
def contextFor (f : FeedNo) (st : Tick) (s : State) : Option Context :=
  (s.contextsOf f).find? (fun x => x.stamp == st)

/-- The feed's context of a stamp replaced. -/
def putContext (f : FeedNo) (x : Context) (s : State) : State :=
  setContexts f ((s.contextsOf f).map (fun y => if y.stamp = x.stamp then x else y)) s

/-- The feed's context of a stamp leaves the list. -/
def dropContext (f : FeedNo) (st : Tick) (s : State) : State :=
  setContexts f ((s.contextsOf f).filter (fun y => y.stamp != st)) s

/-- A malformed frame is abandoned whole (R43, R52). -/
def abandonMalformed (f : FeedNo) (x : Context) (s : State) : State :=
  countMalformed f (returnHeld f x.blocks.length (dropContext f x.stamp s))

/-- The SMC refuses a request of `n` blocks for a feed (R45). -/
def refuses (f : FeedNo) (n : Nat) (s : State) : Bool :=
  decide ((s.feed f).cfg.quota < s.holding f + n) || decide (freeBlocks s < n)

/-- Granted blocks join the feed's holding (R45, R46). -/
def grantHeld (f : FeedNo) (n : Nat) (s : State) : State :=
  if n = 0 then s else grantBlocks n (setHolding f (s.holding f + n) s)

/-- Steps 6 and 7 (R48, R49): the unit is recorded, and a complete frame is committed. -/
def recordAndCommit (f : FeedNo) (u : HandedUnit) (granted : List Nat) (x : Context) (s : State) :
    State :=
  let y := recordUnit u granted x
  if complete y then
    let s := dropContext f y.stamp s
    { s with handedFrames :=
        s.handedFrames ++ [⟨f, commitFrame (s.feed f).cfg.unitSize s.wall y⟩] }
  else putContext f y s

/-- Steps 3 to 7 of R38 for a unit with its context. -/
def judgeUnit (f : FeedNo) (u : HandedUnit) (x : Context) (s : State) : State :=
  if covers x u.number then countFeed f (fun k => { k with duplicate := bump k.duplicate }) s
  else
    match numbering x u.last u.number with
    | .badUnit => countMalformed f s
    | .badFrame => abandonMalformed f x s
    | .passes =>
      let want := missing (s.feed f).cfg.unitSize u x
      if !want.isEmpty && refuses f want.length s then
        countFeed f (fun k => { k with noRoom := bump k.noRoom }) s
      else recordAndCommit f u want x (grantHeld f want.length s)

/-- One MEDIA unit through the steps of R38. A unit of a feed that has left RECORDING is discarded as
not recording (R54). -/
def assemble (f : FeedNo) (u : HandedUnit) (s : State) : State :=
  if (s.feed f).state ≠ .recording then countNotRecording f s
  else if lengthOk (s.feed f).cfg.unitSize u.last u.length then
    let s := findOrOpen f u s
    match contextFor f u.stamp s with
    | none => s
    | some x => judgeUnit f u x s
  else countMalformed f s

/-- The FA takes the oldest MEDIA unit handed on for a feed (R31, R38). -/
def takeUnit (f : FeedNo) (s : State) : State :=
  match s.handedUnits.find? (fun u => u.feed == f) with
  | none => s
  | some u => assemble f u { s with handedUnits := s.handedUnits.erase u }

/-- FA_TAKE_UNIT (R38). -/
def execFaTakeUnit (f : FeedNo) (s : State) : Host.Outcome State Fault Refusal := running (takeUnit f) s

/-! ### Expiry (R51) -/

/-- A context has expired at the present wall time (R51). -/
def contextExpired (timeout : Nat) (wall : Tick) (x : Context) : Bool :=
  elapsed wall x.first (msTicks timeout)

/-- A feed's expired contexts are abandoned (R51). -/
def expireFeed (f : FeedNo) (s : State) : State :=
  let t := (s.feed f).cfg.asmTimeout
  let gone := (s.contextsOf f).filter (contextExpired t s.wall)
  let s := setContexts f ((s.contextsOf f).filter (fun x => !contextExpired t s.wall x)) s
  gone.foldl (fun s x => abandonIncomplete f x s) s

/-- Every open context of every feed is examined at a millisecond step (R51). -/
def expireContexts (s : State) : State :=
  if msStep s then (List.finRange 32).foldl (fun s f => expireFeed f s) s else s

/-- CONTEXT_EXPIRY (R51). -/
def execContextExpiry (s : State) : Host.Outcome State Fault Refusal := running expireContexts s

end Sys2Proof.Machine
end

