-- ==== Sys2Proof/Machine/Receive.lean ====
section
/-! DEFINITION. The contribution port and the Feed Recognizer (chapter 2), the arrival of requests
(R157) and the sending of transmit queue frames (R163). -/

namespace Sys2Proof.Machine

/-! ### Matching and counting (R26, R27) -/

/-- The entry not in OFF that holds a key (R26); R4 keeps it unique. -/
def matchFeed (tag : BitVec 16) (src : Addr) (s : State) : Option FeedNo :=
  (List.finRange 32).find? (fun f =>
    (s.feed f).state != .off && (s.feed f).cfg.tag == tag && (s.feed f).cfg.origin == src)

/-- A unit that fails the check is charged to its feed or to the port (R24). -/
def chargeBadCheck (src : Addr) (u : UnitView) (s : State) : State :=
  if u.cls = clsMgmt then countPort (fun k => { k with badCheck := bump k.badCheck }) s
  else
    match matchFeed u.tag src s with
    | some f => countFeed f (fun k => { k with badCheck := bump k.badCheck }) s
    | none => countPort (fun k => { k with badCheck := bump k.badCheck }) s

/-- A matched unit is counted and its stated length added to the arrival byte count (R27). -/
def countArrival (f : FeedNo) (len : Nat) (s : State) : State :=
  modFeed f (fun e =>
    { e with
      counters := { e.counters with unitsReceived := bump e.counters.unitsReceived }
      arrival := satAdd e.arrival len }) s

/-! ### Handing units on (R31, R32) -/

/-- A MEDIA unit is handed to the FA (R31). -/
def handMedia (f : FeedNo) (u : UnitView) (s : State) : State :=
  { s with handedUnits :=
      s.handedUnits ++ [⟨f, u.stamp, u.number, u.last, u.mark, u.length, u.payload, s.wall⟩] }

/-- A VOID unit is handed to the PE as a VOID frame (R32). -/
def handVoid (f : FeedNo) (u : UnitView) (s : State) : State :=
  { s with handedFrames := s.handedFrames ++ [⟨f, ⟨u.stamp, .void, false, 0, 0, [], s.wall⟩⟩] }

/-- The way out of LOST that a MEDIA unit decides (R16, R30). -/
def wayOut (f : FeedNo) (u : UnitView) (s : State) : State :=
  match (if (s.feed f).cfg.autoResume then openable f s else none) with
  | some c => handMedia f u (openForFeed c f (ownLabel f s) s)
  | none =>
    let s := modFeed f (fun e => { e with starved := 0 }) (setFeedState f .idle s)
    countNotRecording f s

/-- A counted unit is discarded or handed on by the entry's state and throttled flag (R28 to R32). -/
def passOn (f : FeedNo) (u : UnitView) (s : State) : State :=
  match (s.feed f).state with
  | .off | .idle | .stalled => countNotRecording f s
  | .recording =>
    if (s.feed f).throttled then countFeed f (fun k => { k with throttled := bump k.throttled }) s
    else if u.cls = clsMedia then handMedia f u s
    else handVoid f u s
  | .lost =>
    if (s.feed f).throttled then countFeed f (fun k => { k with throttled := bump k.throttled }) s
    else if u.cls = clsMedia then wayOut f u s
    else countNotRecording f s

/-! ### Requests (R25, R157) -/

/-- The request that a MGMT payload spells; none where it is too short for a tag and a kind (R157,
R173). -/
def parseRequest (src : Addr) (payload : List Byte) : Option Request :=
  if payload.length < 4 then none
  else some ⟨src, BitVec.ofNat 16 (field 0 2 payload), BitVec.ofNat 16 (field 2 2 payload),
    payload.drop 4⟩

/-- The tests of R157 on a MGMT unit handed to the MU. -/
def requestArrives (src : Addr) (payload : List Byte) (s : State) : State :=
  if !s.mu.origins.isEmpty && !s.mu.origins.contains src then
    { s with mu := { s.mu with refusedOrigin := bump s.mu.refusedOrigin } }
  else
    match parseRequest src payload with
    | none => { s with mu := { s.mu with malformedRequests := bump s.mu.malformedRequests } }
    | some r =>
      if s.mu.requests.length < 8 then
        { s with mu := { s.mu with requests := s.mu.requests ++ [r] } }
      else { s with mu := { s.mu with requestsDropped := bump s.mu.requestsDropped } }

/-! ### A frame on the contribution port (R20 to R25) -/

/-- A MEDIA or VOID unit that passes the check (R26, R27). -/
def recognise (src : Addr) (u : UnitView) (s : State) : State :=
  match matchFeed u.tag src s with
  | none => countPort (fun k => { k with unmatched := bump k.unmatched }) s
  | some f => passOn f u (countArrival f u.length s)

/-- A unit of a known length is checked and goes on by its class (R23). -/
def takeReceived (src : Addr) (u : UnitView) (s : State) : State :=
  if u.passes then
    if u.cls = clsMedia ∨ u.cls = clsVoid then recognise src u s
    else if u.cls = clsMgmt then
      requestArrives src u.payload (countPort (fun k => { k with management := bump k.management }) s)
    else countPort (fun k => { k with unknownClass := bump k.unknownClass }) s
  else chargeBadCheck src u s

/-- A frame presented on the contribution port is taken whole (R20). Without carrier none arrives
(R36), and one that arrives while a RESET DEVICE is taking effect is discarded without count (R36,
R167): that frame has found the response joined, so no notice meets the join any more. -/
def receiveFrame (fr : EthFrame) (s : State) : State :=
  if !s.contribCarrier then s
  else if s.mu.resetDue then fixJoin s
  else
    match classify fr with
    | .damaged => countPort (fun k => { k with damaged := bump k.damaged }) s
    | .foreign => countPort (fun k => { k with foreign := bump k.foreign }) s
    | .truncated => countPort (fun k => { k with truncated := bump k.truncated }) s
    | .unit src u => takeReceived src u s

/-- CONTRIBUTION_FRAME_RECEIVED (R20). -/
def execContributionFrameReceived (fr : EthFrame) (s : State) : Host.Outcome State Fault Refusal :=
  running (receiveFrame fr) s

/-! ### Carrier and the transmit queue (R36, R163) -/

/-- CONTRIBUTION_CARRIER_LOSS (R36): the line's level alone changes, whatever the reset line. -/
def execContributionCarrierLoss (s : State) : Host.Outcome State Fault Refusal :=
  .next { s with contribCarrier := false }

/-- CONTRIBUTION_CARRIER_RETURN (R163): the waiting frames may be sent again. -/
def execContributionCarrierReturn (s : State) : Host.Outcome State Fault Refusal :=
  .next { s with contribCarrier := true }

/-- A response that waits joins the transmit queue, and its request leaves the request queue (R158,
R163). With the DONE of a RESET DEVICE the reset becomes due (R167). Until then the request fills one of
the queue's eight places: R158 says both that it leaves with the join and that an arrival after the take
finds seven (DESIGN CHOICE, assumption log 34). -/
def joinWaiting (s : State) : State :=
  match s.mu.waiting with
  | none => s
  | some w =>
    if txRoom s then
      { s with mu := { s.mu with
          tx := s.mu.tx ++ [w.frame]
          waiting := none
          requests := s.mu.requests.tail
          resetDue := s.mu.resetDue || w.reset } }
    else s

/-- The response that waits, with its request, as a notice of this wall time may meet its join. -/
def joining (s : State) : Option Joined :=
  match s.mu.waiting, s.mu.requests with
  | some w, r :: _ => some ⟨w, r⟩
  | _, _ => none

/-- The last byte of the oldest frame is sent; the frame leaves the queue, and a waiting response joins it
(R163). -/
def transmit (s : State) : State :=
  if s.contribCarrier then
    match s.mu.tx with
    | [] => s
    | t :: ts =>
      joinWaiting { s with mu := { s.mu with
        tx := ts, lastSent := t.bytes, sent := s.mu.sent + 1, joined := joining s } }
  else s

/-- TRANSMIT_FRAME_SENT (R163). -/
def execTransmitFrameSent (s : State) : Host.Outcome State Fault Refusal := running transmit s

end Sys2Proof.Machine
end

