-- ==== Sys2Proof/Machine/Browse.lean ====
section
/-! DEFINITION. The meaning of STEP_END, the end of a reduction step (section 6.3). -/

namespace Sys2Proof.Machine

/-- The step ends, and the entries that its end freed are offered (R69). -/
def endStep (s : State) : State := if stepDue s then offerShare (finishStep s) else s

/-- STEP_END (R108). -/
def execStepEnd (s : State) : Host.Outcome State Fault Refusal := running endStep s

end Sys2Proof.Machine
end

