-- ==== Sys2Proof/Machine/Storage.lean ====
section
/-! DEFINITION. The Storage Writer's events (sections 7.3 to 7.6): answers, READY, foreign frames, the
last piece of a write, backoff ends, timeouts, retired IDs, carrier and the hold line. -/

namespace Sys2Proof.Machine

/-! ### A write ends (R121, R126, R133) -/

/-- The outcome OK goes to the owner of the write (R126, R93, R96, R114). The entry has left the
queue. -/
def reportOk (e : WriteEntry) (s : State) : State :=
  match e.cls with
  | .essence =>
    let s := modClip e.clip (fun k => answered e.serial k) s
    releaseData e (testEligible 0 e.clip s)
  | .index => offerIndex (indexOk e s)
  | .browse => releaseData e s

/-- The pick number of a BROWSE write. -/
def pickOf (e : WriteEntry) : Nat :=
  match e.data with
  | .reduced _ p _ => p
  | _ => 0

/-- The failure of a clip by an aborted write (R97). The record of an aborted INDEX write, which leaves
the store with the clip's other closed segments, keeps its place until its last piece has left the port
(R124). -/
def failByAbort (e : WriteEntry) (s : State) : State :=
  let k := s.clip e.clip
  if e.cls = .index ∧ (k.state = .recording ∨ k.state = .draining) ∧ k.closed ≠ [] then
    returnAfterPort e.serial .record (failClip e.clip true s)
  else failClip e.clip true s

/-- A write is aborted for a reason (R133). The entry has left the queue. -/
def abortWrite (e : WriteEntry) (r : AbortReason) (s : State) : State :=
  let s := countClass e.cls (fun k => { k with aborts := bump k.aborts }) (setAbortFlag e.cls e.clip r s)
  match e.cls with
  | .essence => releaseData e (failByAbort e s)
  | .index => offerIndex (failByAbort e s)
  | .browse => lateHole e.clip e.segment (pickOf e) (releaseData e s)

/-- A SENT entry comes back to QUEUED as `g` leaves it, or is removed if it is an ESSENCE or INDEX
entry of a failed clip (R120, R135). -/
def comeBack (e : WriteEntry) (g : WriteEntry → WriteEntry) (s : State) : State :=
  let s := modEntry e.serial (fun x => { g x with flight := none }) s
  if (s.clip e.clip).state = .failed ∧ e.cls ≠ .browse then removeAll [e] s else s

/-! ### Answers (R125 to R131) -/

/-- The end of a backoff that starts now (R130). -/
def backoffFrom (s : State) : Tick := s.wall + BitVec.ofNat 48 (12 * s.sw.settings.backoff)

/-- A failed attempt: below the retry limit the entry comes back with one attempt more and the given
backoff end, otherwise the write is aborted (R130, R132). -/
def failedAttempt (e : WriteEntry) (backoff : Option Tick) (s : State) : State :=
  if e.attempts < s.sw.settings.retry.get e.cls then
    comeBack e (fun x => { x with attempts := x.attempts + 1, backoffEnd := backoff }) s
  else abortWrite e .retriesExhausted (removeEntry e.serial s)

/-- The busy policy decides what follows a BUSY answer (R128, R130, R131). -/
def takeBusy (e : WriteEntry) (s : State) : State :=
  let s := countClass e.cls (fun k => { k with busy := bump k.busy }) s
  match s.sw.settings.policy.get e.cls with
  | .wait =>
    let s := { s with sw := { s.sw with paused := s.sw.paused.modify e.cls (fun _ => true) } }
    comeBack e (fun x => x) s
  | .retry => failedAttempt e (some (backoffFrom s)) s
  | .shed => abortWrite e .busyShed (removeEntry e.serial s)

/-- One stray answer (R125). -/
def countStray (s : State) : State := { s with sw := { s.sw with stray := bump s.sw.stray } }

/-- An answer with one of the three results for a write of the window (R126, R127, R128): 1 OK, 2 BUSY,
3 FAULT. The arbiter judges (R122) and freed entries are offered (R69). -/
def answerWrite (e : WriteEntry) (result : Byte) (s : State) : State :=
  let s :=
    if result = 1 then
      reportOk e (removeEntry e.serial
        (countClass e.cls (fun k => { k with acknowledged := bump k.acknowledged }) s))
    else if result = 2 then takeBusy e s
    else
      abortWrite e .fault (removeEntry e.serial
        (countClass e.cls (fun k => { k with fault := bump k.fault }) s))
  offerFreed (arbitrate s)

/-- A WRITE-ANSWER (R125): matched by its ID against the window, or stray. -/
def takeAnswer (id result : Byte) (s : State) : State :=
  if result = 1 ∨ result = 2 ∨ result = 3 then
    match inFlight id s with
    | some e => answerWrite e result s
    | none => countStray s
  else countStray s

/-- Every pause cleared (R129). -/
def clearPauses (s : State) : State :=
  { s with sw := { s.sw with paused := ⟨false, false, false⟩ } }

/-- A READY message (R129). -/
def takeReady (s : State) : State :=
  arbitrate (clearPauses { s with sw := { s.sw with readies := bump s.sw.readies } })

/-- One storage foreign frame (R125). -/
def countStorageForeign (s : State) : State :=
  { s with sw := { s.sw with foreign := bump s.sw.foreign } }

/-- A frame received on the storage port is taken for what it is (R125, R176); without carrier none is
received (R136). -/
def receiveStorage (fr : EthFrame) (s : State) : State :=
  if s.storCarrier then
    match classifyStorage s.sw.settings.peer fr with
    | .answer id result => takeAnswer id result s
    | .ready => takeReady s
    | .foreign => countStorageForeign s
  else s

/-- WRITE_ANSWER (R125). -/
def execWriteAnswer (fr : EthFrame) (s : State) : Host.Outcome State Fault Refusal :=
  running (receiveStorage fr) s

/-- READY (R129). -/
def execReady (fr : EthFrame) (s : State) : Host.Outcome State Fault Refusal :=
  running (receiveStorage fr) s

/-- STORAGE_FOREIGN_FRAME (R125). -/
def execStorageForeignFrame (fr : EthFrame) (s : State) : Host.Outcome State Fault Refusal :=
  running (receiveStorage fr) s

/-! ### The last piece (R124) -/

/-- The send time of the write that left the port, where it is still in flight by that same send (R124):
the pieces of an earlier send of the entry, even one under the same ID, do not set it. -/
def stampSendTime (w : PortWrite) (s : State) : State :=
  modEntry w.serial (fun e =>
    match e.flight with
    | some fl =>
      if fl.order = w.order then { e with flight := some { fl with sendTime := some s.wall } } else e
    | none => e) s

/-- What waited for a write's last piece is returned, once no piece of it is left at the port. -/
def returnLate (serial : Nat) (s : State) : State :=
  if onPort serial s then s
  else
    let due := s.sw.late.filter (fun x => x.1 == serial)
    let s := { s with sw := { s.sw with late := s.sw.late.filter (fun x => x.1 != serial) } }
    due.foldl (fun s x => makeReturn x.1 x.2 s) s

/-- The last piece of the oldest write at the port leaves it (R124). -/
def pieceSent (s : State) : State :=
  if s.storCarrier then
    match s.sw.portQueue with
    | [] => s
    | w :: ws =>
      let s := { s with sw := { s.sw with portQueue := ws, lastMessages := w.frames } }
      returnLate w.serial (stampSendTime w s)
  else s

/-- LAST_PIECE_SENT (R124). -/
def execLastPieceSent (s : State) : Host.Outcome State Fault Refusal := running pieceSent s

/-! ### Backoffs, timeouts and retired IDs (R130, R132, R123) -/

/-- The entry's backoff end has been reached (R130). -/
def backoffDue (wall : Tick) (e : WriteEntry) : Bool := e.backoffEnd.any (fun b => atOrAfter wall b)

/-- A backoff that has ended becomes absent, and the arbiter judges (R130). -/
def endBackoff (s : State) : State :=
  match s.sw.queue.find? (backoffDue s.wall) with
  | none => s
  | some e => arbitrate (modEntry e.serial (fun x => { x with backoffEnd := none }) s)

/-- BACKOFF_END (R130). -/
def execBackoffEnd (s : State) : Host.Outcome State Fault Refusal := running endBackoff s

/-- The write has waited for the ack timeout since its send time (R132). -/
def timedOut (s : State) (e : WriteEntry) : Bool :=
  match e.flight with
  | some fl => fl.sendTime.any (fun t => elapsed s.wall t (msTicks s.sw.settings.ackTimeout))
  | none => false

/-- The number of a SENT entry in the order of sends. -/
def sendOrder (e : WriteEntry) : Nat := match e.flight with | some fl => fl.order | none => 0

/-- The earliest sent of some entries. -/
def earliest : List WriteEntry → Option WriteEntry
  | [] => none
  | e :: es =>
    match earliest es with
    | none => some e
    | some x => some (if sendOrder x < sendOrder e then x else e)

/-- The timed-out write that is taken next: the first in send order (R132). -/
def firstTimedOut (s : State) : Option WriteEntry := earliest (s.sw.queue.filter (timedOut s))

/-- An ID is retired now (R123). -/
def retire (id : BitVec 8) (s : State) : State :=
  { s with sw := { s.sw with
      retired := s.sw.retired ++ [⟨id, s.wall, s.sw.settings.ackTimeout⟩] } }

/-- One timeout (R132). -/
def timeOut (e : WriteEntry) (s : State) : State :=
  let s := match e.flight with | some fl => retire fl.id s | none => s
  let s := countClass e.cls (fun k => { k with timeouts := bump k.timeouts }) s
  offerFreed (arbitrate (failedAttempt e none s))

/-- At a millisecond step the first timed-out write is taken (R132). -/
def takeTimeout (s : State) : State :=
  if msStep s then
    match firstTimedOut s with
    | none => s
    | some e => timeOut e s
  else s

/-- ACK_TIMEOUT (R132). -/
def execAckTimeout (s : State) : Host.Outcome State Fault Refusal := running takeTimeout s

/-- A retired ID's period has passed (R123). -/
def retirementOver (wall : Tick) (r : RetiredId) : Bool :=
  atOrAfter wall (r.since + BitVec.ofNat 48 (msTicks r.timeout))

/-- At a millisecond step the first retired ID whose period has passed is freed (R123). -/
def freeRetired (s : State) : State :=
  if msStep s then
    match s.sw.retired.find? (retirementOver s.wall) with
    | none => s
    | some r => arbitrate { s with sw := { s.sw with retired := s.sw.retired.erase r } }
  else s

/-- RETIRED_ID_FREED (R123). -/
def execRetiredIdFreed (s : State) : Host.Outcome State Fault Refusal := running freeRetired s

/-! ### Carrier (R136, R137) -/

/-- A window entry returned at link loss: attempts unchanged, no backoff (R136). -/
def returnedEntry (e : WriteEntry) : WriteEntry :=
  if e.flight.isSome then { e with flight := none, backoffEnd := none } else e

/-- The window returns to QUEUED with its IDs retired; entries of failed clips are removed (R136 steps 1
and 2, R135), in the order of arrival (DESIGN CHOICE, assumption log 35). -/
def returnWindow (s : State) : State :=
  let back := window s
  let ids := back.filterMap (fun e => e.flight.map (fun fl => fl.id))
  let s := ids.foldl (fun s id => retire id s) s
  let s := { s with sw := { s.sw with queue := s.sw.queue.map returnedEntry } }
  removeAll (back.filter (fun e => (s.clip e.clip).state == .failed && e.cls != .browse)) s

/-- Pieces not yet transmitted are not sent (R136); what waited for them is returned (R124; DEDUCED,
assumption log 13), and before R136's own steps (DESIGN CHOICE, assumption log 39). -/
def clearPort (s : State) : State :=
  let due := s.sw.late
  let s := { s with sw := { s.sw with portQueue := [], late := [] } }
  due.foldl (fun s x => makeReturn x.1 x.2 s) s

/-- Link loss, one event (R136). What waited for a last piece is returned before R136's own steps, so that a
PRESSURE notice which those blocks call for stands before the WRITE_ABORT and STORAGE_LINK notices: R164
leaves the order of different blocks' notices open (DESIGN CHOICE, assumption log 39). -/
def loseLink (s : State) : State :=
  if s.storCarrier then
    let s := clearPauses (returnWindow (clearPort { s with storCarrier := false }))
    offerFreed (notify .storageLink 0 0 (raiseDev .linkDown s))
  else s

/-- LINK_LOSS (R136). While the reset line is asserted the level alone changes (R137). -/
def execLinkLoss (s : State) : Host.Outcome State Fault Refusal :=
  .next (if s.resetLine then { s with storCarrier := false } else loseLink s)

/-- Carrier returns (R137). -/
def regainLink (s : State) : State :=
  if s.storCarrier then s
  else arbitrate (notify .storageLink 0 1 (raiseDev .linkUp { s with storCarrier := true }))

/-- CARRIER_RETURN (R137). While the reset line is asserted the level alone changes. -/
def execCarrierReturn (s : State) : Host.Outcome State Fault Refusal :=
  .next (if s.resetLine then { s with storCarrier := true } else regainLink s)

/-! ### The storage hold line (R138) -/

/-- The hold line is asserted (R138). -/
def assertHold (s : State) : State :=
  if s.holdLine then s
  else notify .storageHold 0 1 (raiseDev .holdAsserted { s with holdLine := true })

/-- STORAGE_HOLD_ASSERTED (R138). While the reset line is asserted the level alone changes. -/
def execStorageHoldAsserted (s : State) : Host.Outcome State Fault Refusal :=
  .next (if s.resetLine then { s with holdLine := true } else assertHold s)

/-- The hold line is released (R138). -/
def releaseHold (s : State) : State :=
  if s.holdLine then
    arbitrate (notify .storageHold 0 0 (raiseDev .holdReleased { s with holdLine := false }))
  else s

/-- STORAGE_HOLD_RELEASED (R138). While the reset line is asserted the level alone changes. -/
def execStorageHoldReleased (s : State) : Host.Outcome State Fault Refusal :=
  .next (if s.resetLine then { s with holdLine := false } else releaseHold s)

end Sys2Proof.Machine
end

