-- ==== Sys2Proof/Machine/Watch.lean ====
section
/-! DEFINITION. Feed Watch (chapter 8): the meanings of PERIOD_EXPIRY, WATCH_CHECK and FEED_LOST. -/

namespace Sys2Proof.Machine

/-! ### The sweep (R149) -/

/-- Ticks of a watch period counted in tens of milliseconds. -/
def periodTicks (period : Nat) : Tick := BitVec.ofNat 48 (msTicks (10 * period))

/-- A period expiry has been reached and no sweep runs (R149). -/
def expiryDue (s : State) : Bool :=
  s.fw.period != 0 && s.fw.sweep.isNone && atOrAfter s.wall s.fw.nextExpiry

/-- A sweep that has checked its last listed feed ends (R149). -/
def sweepOf (time : Tick) : List FeedNo → Option Sweep
  | [] => none
  | f :: fs => some ⟨time, f :: fs⟩

/-- A period expiry starts a sweep over the watch sequence and counts it; a sweep of an empty sequence
ends as it starts (R149). The sweep's wall time is that of its expiry. R149 says that each sweep counts
once, not when: that it counts at its start is the model's choice (DESIGN CHOICE, assumption log 32). -/
def startSweep (s : State) : State :=
  if expiryDue s then
    { s with fw := { s.fw with
        nextExpiry := s.fw.nextExpiry + periodTicks s.fw.period
        sweep := sweepOf s.fw.nextExpiry s.fw.sequence
        sweeps := bump s.fw.sweeps } }
  else s

/-- PERIOD_EXPIRY (R149). -/
def execPeriodExpiry (s : State) : Host.Outcome State Fault Refusal := running startSweep s

/-! ### One check (R150 to R153) -/

/-- The verdict table of R150. -/
def verdictOf (cfg : FeedConfig) (bytes : BitVec 32) : Verdict :=
  let low := decide (bytes.toNat < cfg.floor.toNat)
  let high := decide (cfg.ceiling.toNat < bytes.toNat)
  match cfg.watchMode with
  | .off => .normal
  | .floor => if low then .starved else .normal
  | .ceiling => if high then .runaway else .normal
  | .both => if low then .starved else if high then .runaway else .normal

/-- A new verdict counts as a change against the previous one (R153). -/
def verdictChanged (old new : Verdict) : Bool :=
  match old with
  | .noVerdict => new == .starved || new == .runaway
  | _ => old != new

/-- The watch table entry is overwritten, and a changed verdict sends a WATCH notice and raises
WATCH_CHANGE (R150 step 3, R153). -/
def recordVerdict (f : FeedNo) (bytes : BitVec 32) (v : Verdict) (time : Tick) (s : State) : State :=
  let old := (s.watchEntry f).verdict
  let s := setWatchEntry f ⟨bytes, v, some time⟩ s
  if verdictChanged old v then notify .watch f v.code (raiseDev .watchChange s) else s

/-- The starved count and the throttled flag after a verdict (R151, R152). -/
def applyVerdict (f : FeedNo) (v : Verdict) (s : State) : State :=
  let s := modFeed f (fun e =>
    { e with
      starved := if v = .starved then min (e.starved + 1) 255 else 0
      throttled := v == .runaway }) s
  if v = .runaway then raiseFeed f .throttledSeen s else s

/-- What a verdict asks of other blocks (R151): a pacing fill request, or the loss of the feed. -/
def handVerdict (f : FeedNo) (v : Verdict) (s : State) : State :=
  if v = .starved ∧ (s.feed f).state = .recording then
    if (s.feed f).starved < (s.feed f).cfg.lostSweeps then
      { s with fw := { s.fw with pacing := s.fw.pacing ++ [f] } }
    else { s with fw := { s.fw with losses := s.fw.losses ++ [f] } }
  else s

/-- One listed feed is checked as one act, or passed over in OFF (R150). -/
def checkFeed (f : FeedNo) (time : Tick) (s : State) : State :=
  if (s.feed f).state = .off then s
  else
    let bytes := (s.feed f).arrival
    let v := verdictOf (s.feed f).cfg bytes
    let s := modFeed f (fun e => { e with arrival := 0 }) s
    handVerdict f v (applyVerdict f v (recordVerdict f bytes v time s))

/-- The next listed feed of the running sweep is checked (R149, R150). -/
def nextCheck (s : State) : State :=
  match s.fw.sweep with
  | none => s
  | some w =>
    match w.remaining with
    | [] => { s with fw := { s.fw with sweep := none } }
    | f :: fs =>
      checkFeed f w.time { s with fw := { s.fw with sweep := sweepOf w.time fs } }

/-- WATCH_CHECK (R150). -/
def execWatchCheck (s : State) : Host.Outcome State Fault Refusal := running nextCheck s

/-! ### The loss of a feed (R15) -/

/-- A loss ends the feed's current clip SOURCE_LOST, as it then stands; outside RECORDING it has no
effect (R15). -/
def loseFeed (f : FeedNo) (s : State) : State :=
  match recordingClip f s with
  | none => s
  | some (c, _) => endRecording f c .sourceLost .lost s

/-- The CM takes a loss handed on (R151, R15). -/
def takeLoss (f : FeedNo) (s : State) : State :=
  if f ∈ s.fw.losses then
    offerFreed (loseFeed f { s with fw := { s.fw with losses := s.fw.losses.erase f } })
  else s

/-- FEED_LOST (R15). -/
def execFeedLost (f : FeedNo) (s : State) : Host.Outcome State Fault Refusal := running (takeLoss f) s

end Sys2Proof.Machine
end

