-- ==== Sys2Proof/Machine/Management.lean ====
section
/-! DEFINITION. The Management Unit (chapter 9): taking the oldest request, its checks, its effect and
its response (R158, R159), and the meanings of the request rows. -/

namespace Sys2Proof.Machine

/-! ### Taking a request and answering it (R158, R159) -/

/-- What a kind's own checks and effect come to: a refusal, which changes nothing, or DONE with the
data of the response and the state after the effect (R159). -/
inductive Reply where
  | refused (r : Result)
  | accepted (data : List Byte) (after : State)

/-- The request that the MU would take now, if it is of this kind: the oldest one, while no response
waits (R158) and no reset is due (R167). -/
def requestOf (k : RequestKind) (s : State) : Option Request :=
  if s.mu.waiting.isSome || s.mu.resetDue then none
  else
    match s.mu.requests with
    | [] => none
    | r :: _ => if RequestKind.ofCode r.kind = k then some r else none

/-- A response is formed and offered to the transmit queue (R158 step 2, R163). -/
def respond (r : Request) (reset : Bool) (res : Result) (data : List Byte) (s : State) : State :=
  let w : Waiting := ⟨⟨r.origin, s.mu.address, s.wall, responseBody r res data⟩, reset⟩
  joinWaiting { s with mu := { s.mu with waiting := some w } }

/-- The response of a reply. -/
def answer (r : Request) (reset : Bool) (reply : Reply) (s : State) : State :=
  match reply with
  | .refused e => respond r false e [] s
  | .accepted data after => respond r reset .done data after

/-- The take of a request of kind `k`: the length test of R159 step 2, then `body`, the kind's own
number, checks and effect. The MU takes a request only with its last response in the transmit queue (R158),
so no notice meets that join any more. -/
def take (k : RequestKind) (body : List Byte → State → Reply) (s : State) : State :=
  match requestOf k s with
  | none => s
  | some r =>
    let s := fixJoin s
    if r.body.length < k.need r.body then answer r false (.refused .badValue) s
    else answer r (k == .resetDevice) (body r.body s) s

/-- The number test of R159 step 3 on the feed byte at `off`. -/
def withFeed (off : Nat) (body : List Byte) (g : FeedNo → Reply) : Reply :=
  if h : field off 1 body < 32 then g ⟨field off 1 body, h⟩ else .refused .notFound

/-- The number test of R159 step 3 on the clip byte that opens a body. -/
def withClip (body : List Byte) (g : ClipNo → Reply) : Reply :=
  if h : field 0 1 body < 64 then g ⟨field 0 1 body, h⟩ else .refused .notFound

/-! ### SET FEED, GET FEED, ENABLE FEED (R3, R4, R10, R14, R18) -/

/-- Some other entry outside OFF holds the key (R4). -/
def keyTaken (f : FeedNo) (tag : BitVec 16) (origin : Addr) (s : State) : Bool :=
  (List.finRange 32).any (fun g =>
    g != f && (s.feed g).state != .off && (s.feed g).cfg.tag == tag && (s.feed g).cfg.origin == origin)

/-- The key check of a SET FEED (R4); an entry in OFF is not checked. -/
def setFeedClash (f : FeedNo) (c : FeedConfig) (s : State) : Bool :=
  (s.feed f).state != .off && keyTaken f c.tag c.origin s

/-- An accepted SET FEED: the configuration is replaced, and a STALLED feed's open retried (R3, R14). -/
def writeConfig (f : FeedNo) (c : FeedConfig) (s : State) : State :=
  let s := modFeed f (fun e => { e with cfg := c }) s
  if (s.feed f).state = .stalled then retryStalled f s else s

/-- SET FEED's checks and effect (R3). -/
def setFeedReply (body : List Byte) (s : State) : Reply :=
  withFeed 0 body fun f =>
    if (s.feed f).state = .recording ∨ (s.feed f).state = .lost then .refused .state
    else
      match parseConfig (body.drop 1) with
      | none => .refused .badValue
      | some c => if setFeedClash f c s then .refused .duplicate else .accepted [] (writeConfig f c s)

/-- SET_FEED (R3). -/
def execSetFeed (s : State) : Host.Outcome State Fault Refusal := running (take .setFeed setFeedReply) s

/-- The data of a GET FEED response (R18, R175). -/
def feedData (e : Feed) : List Byte :=
  configBytes e.cfg ++
    (match e.pending with
      | none => 0 :: List.replicate 6 0
      | some t => 1 :: stagedBytes t) ++
    be 1 e.state.code ++ optBytes 1 (e.clip.map Fin.val) ++ be 4 e.arrival.toNat ++ be 1 e.starved ++
    [flagByte e.throttled]

/-- GET FEED (R18). -/
def getFeedReply (body : List Byte) (s : State) : Reply :=
  withFeed 0 body fun f => .accepted (feedData (s.feed f)) s

/-- GET_FEED (R18). -/
def execGetFeed (s : State) : Host.Outcome State Fault Refusal := running (take .getFeed getFeedReply) s

/-- The entry goes from OFF to IDLE (R10). -/
def enable (f : FeedNo) (s : State) : State :=
  setFeedState f .idle (modFeed f (fun e => { e with arrival := 0 }) s)

/-- ENABLE FEED's checks and effect (R10, R4). -/
def enableFeedReply (body : List Byte) (s : State) : Reply :=
  withFeed 0 body fun f =>
    if (s.feed f).state ≠ .off then .refused .state
    else if keyTaken f (s.feed f).cfg.tag (s.feed f).cfg.origin s then .refused .duplicate
    else .accepted [] (enable f s)

/-- ENABLE_FEED (R10). -/
def execEnableFeed (s : State) : Host.Outcome State Fault Refusal :=
  running (take .enableFeed enableFeedReply) s

/-! ### DISABLE FEED, STAGE FEED (R17, R6) -/

/-- The current clip ends STOPPED at a disable (R17 step 4). -/
def stopClip (f : FeedNo) (s : State) : State :=
  match (s.feed f).clip with
  | none => s
  | some c => applyPending f (endClip c .stopped s)

/-- The runtime fields, the watch table entry and the status flags at a disable, and the change to OFF
(R17 steps 5 to 7, R153). -/
def switchOff (f : FeedNo) (s : State) : State :=
  let s := modFeed f (fun e => { e with throttled := false, starved := 0, arrival := 0, clip := none }) s
  setFeedState f .off (setFeedFlags f 0 (setWatchEntry f WatchEntry.blank s))

/-- The effect of DISABLE FEED outside OFF (R17). A clip whose final record met a full store fails once
the feed is OFF (R92). -/
def disable (f : FeedNo) (s : State) : State :=
  let s := removeReductions (fun r => r.feed == f) (dropWork f s)
  let room := storeRoom s
  let clip := (s.feed f).clip
  let s := switchOff f (stopClip f s)
  offerFreed (match clip with | none => s | some c => failAfterEnd room c s)

/-- DISABLE FEED (R17). -/
def disableFeedReply (body : List Byte) (s : State) : Reply :=
  withFeed 0 body fun f =>
    if (s.feed f).state = .off then .accepted [] s else .accepted [] (disable f s)

/-- DISABLE_FEED (R17). -/
def execDisableFeed (s : State) : Host.Outcome State Fault Refusal :=
  running (take .disableFeed disableFeedReply) s

/-- The entry's staged fields written (R6). -/
def writeStaged (f : FeedNo) (t : StagedSet) (s : State) : State :=
  modFeed f (fun e => { e with cfg := { e.cfg with staged := t } }) s

/-- The effect of an accepted STAGE FEED (R6). -/
def stage (f : FeedNo) (t : StagedSet) (s : State) : State :=
  match (s.feed f).state, (s.feed f).clip with
  | .recording, some c =>
    if (s.clip c).state = .opened then
      modClip c (fun k =>
        { k with working := t, cursor := k.cursor.map (fun u => { u with acc := t.bd - t.bn }) })
        (writeStaged f t s)
    else modFeed f (fun e => { e with pending := some t }) s
  | _, _ => writeStaged f t s

/-- STAGE FEED's checks and effect (R6). -/
def stageFeedReply (body : List Byte) (s : State) : Reply :=
  withFeed 0 body fun f =>
    match parseStaged 1 body with
    | none => .refused .badValue
    | some t => .accepted [] (stage f t s)

/-- STAGE_FEED (R6). -/
def execStageFeed (s : State) : Host.Outcome State Fault Refusal :=
  running (take .stageFeed stageFeedReply) s

/-! ### OPEN CLIP, CLOSE CLIP (R11, R12) -/

/-- The start label count that an OPEN CLIP asks for; none where its label is not valid (R11 step 2). -/
def labelAsked (f : FeedNo) (body : List Byte) (s : State) : Option Nat :=
  match boolOfCode (field 1 1 body) with
  | none => none
  | some false => some (ownLabel f s)
  | some true =>
    let p := (s.feed f).cfg.period
    if labelValid p (labelAt 2 body) then some (labelCount p (labelAt 2 body)) else none

/-- OPEN CLIP's checks and effect (R11). -/
def openClipReply (body : List Byte) (s : State) : Reply :=
  withFeed 0 body fun f =>
    if (s.feed f).state ≠ .idle then .refused .state
    else
      match labelAsked f body s with
      | none => .refused .badValue
      | some label =>
        match openable f s with
        | none => .refused .noRoom
        | some c => .accepted (be 1 c) (openForFeed c f label s)

/-- OPEN_CLIP (R11). -/
def execOpenClip (s : State) : Host.Outcome State Fault Refusal :=
  running (take .openClip openClipReply) s

/-- CLOSE CLIP's check and effect (R12): the recording ends STOPPED, and entries freed by a failure
(R92) are offered (R69). -/
def closeClipReply (body : List Byte) (s : State) : Reply :=
  withClip body fun c =>
    if (s.clip c).state = .opened ∨ (s.clip c).state = .recording then
      .accepted [] (offerFreed (endRecording (s.clip c).feed c .stopped .idle s))
    else .refused .state

/-- CLOSE_CLIP (R12). -/
def execCloseClip (s : State) : Host.Outcome State Fault Refusal :=
  running (take .closeClip closeClipReply) s

/-! ### RELEASE CLIP, GET CLIP (R99, R98) -/

/-- The Storage Writer still holds a write of the clip, or the Browse Unit a reduction of it (R99). -/
def clipHeld (c : ClipNo) (s : State) : Bool :=
  s.sw.queue.any (fun e => e.clip == c) || s.bu.queue.any (fun r => r.clip == c) ||
    s.bu.step.any (fun st => st.lanes.any (fun r => r.clip == c))

/-- The STALLED feed that a freed record goes to: the first whose handle range can supply a clip
(R14). -/
def stalledTaker (s : State) : Option FeedNo :=
  (List.finRange 32).find? (fun f => (s.feed f).state == .stalled && handlesLeft (s.feed f).cfg)

/-- The record goes to FREE and is offered to the STALLED feeds (R99, R14). -/
def release (c : ClipNo) (s : State) : State :=
  let s := notify .clipState c ClipState.free.code (modClip c (fun _ => Clip.freeRecord) s)
  match stalledTaker s with
  | none => s
  | some f => openForFeed c f (ownLabel f s) s

/-- RELEASE CLIP's checks and effect (R99). -/
def releaseClipReply (body : List Byte) (s : State) : Reply :=
  withClip body fun c =>
    if (s.clip c).state = .closed ∨ (s.clip c).state = .failed then
      if clipHeld c s then .refused .busy else .accepted [] (release c s)
    else .refused .state

/-- RELEASE_CLIP (R99). -/
def execReleaseClip (s : State) : Host.Outcome State Fault Refusal :=
  running (take .releaseClip releaseClipReply) s

/-- The publication position of a clip, with the number of unanswered ESSENCE writes of its first
segment awaiting publication (R98, R175). -/
def publication (k : Clip) : Nat × Nat :=
  match k.closed with
  | [] => (0, 0)
  | g :: _ => if g.unanswered.isEmpty then (if g.handed then 3 else 2, 0) else (1, g.unanswered.length)

/-- The open segment in a GET CLIP response (R175). -/
def openSegBytes : Option Segment → List Byte
  | none => 0 :: List.replicate 20 0
  | some g =>
    1 :: (be 4 g.number ++ be 4 g.first ++ be 2 g.frames ++ be 8 g.bytes ++ be 1 g.runs.length ++
      be 1 g.holes.length)

/-- The data of a GET CLIP response (R175). -/
def clipData (c : ClipNo) (k : Clip) : List Byte :=
  be 1 c ++ be 1 k.feed ++ be 1 k.state.code ++ be 4 k.essenceHandle.toNat ++
    be 4 k.browseHandle.toNat ++ be 4 k.indexHandle.toNat ++ optBytes 6 (k.origin.map BitVec.toNat) ++
    be 4 k.startLabel ++
    [k.placed, k.essence, k.repeats, k.voids, k.picks, k.holes].flatMap (be 4) ++ be 8 k.bytes ++
    [k.segsClosed, k.records, k.frontier].flatMap (be 4) ++ be 1 (endReasonCode k.endReason) ++
    stagedBytes k.working ++ openSegBytes k.openSeg ++ be 4 k.closed.length ++
    be 1 (publication k).1 ++ be 4 (publication k).2

/-- GET CLIP (R98). -/
def getClipReply (body : List Byte) (s : State) : Reply :=
  withClip body fun c => .accepted (clipData c (s.clip c)) s

/-- GET_CLIP (R98). -/
def execGetClip (s : State) : Host.Outcome State Fault Refusal := running (take .getClip getClipReply) s

/-! ### SET STORAGE, SET DEVICE (R119, R160, R145) -/

/-- The effect of an accepted SET STORAGE: settings replaced, pauses cleared, and the arbiter judges
(R119, R122). -/
def writeStorage (t : StorageSettings) (s : State) : State :=
  arbitrate (clearPauses { s with sw := { s.sw with settings := t } })

/-- SET STORAGE's checks and effect (R119). -/
def setStorageReply (body : List Byte) (s : State) : Reply :=
  match parseStorage body with
  | none => .refused .badValue
  | some t => if (window s).isEmpty then .accepted [] (writeStorage t s) else .refused .busy

/-- SET_STORAGE (R119). -/
def execSetStorage (s : State) : Host.Outcome State Fault Refusal :=
  running (take .setStorage setStorageReply) s

/-- Present occupancy judged against the marks of the present level (R145). -/
def judgeLevel (s : State) : State :=
  if s.smc.pressure then
    if s.smc.occupancy ≤ releaseMark s.smc.level then releasePressure s else s
  else if raiseMark s.smc.level ≤ s.smc.occupancy then assertPressure s
  else s

/-- The effect of an accepted SET DEVICE (R160, R145). -/
def writeDevice (level a b : Nat) (s : State) : State :=
  let changed := s.smc.level ≠ level
  let s := { s with
    smc := { s.smc with level := level }
    bu := { s.bu with durA := a, durB := b } }
  if changed then judgeLevel s else s

/-- SET DEVICE's checks and effect (R160). -/
def setDeviceReply (body : List Byte) (s : State) : Reply :=
  let level := field 0 1 body
  let a := field 1 1 body
  let b := field 2 1 body
  if level ≤ 3 ∧ 1 ≤ a ∧ 1 ≤ b then
    .accepted (be 1 level ++ be 1 a ++ be 1 b) (writeDevice level a b s)
  else .refused .badValue

/-- SET_DEVICE (R160). -/
def execSetDevice (s : State) : Host.Outcome State Fault Refusal :=
  running (take .setDevice setDeviceReply) s

/-! ### SET WATCH, GET WATCH (R148, R153) -/

/-- A feed that watch no longer judges: throttled flag clear, starved count 0, no verdict (R148). -/
def dropWatch (f : FeedNo) (s : State) : State :=
  setWatchEntry f WatchEntry.blank (modFeed f (fun e => { e with throttled := false, starved := 0 }) s)

/-- A feed of the new sequence: arrival byte count 0, and the starved count 0 where it was not listed
(R148). -/
def listWatch (old : List FeedNo) (f : FeedNo) (s : State) : State :=
  modFeed f (fun e =>
    { e with arrival := 0, starved := if f ∈ old then e.starved else 0 }) s

/-- The effect of an accepted SET WATCH (R148). -/
def writeWatch (seq : List FeedNo) (period : Nat) (s : State) : State :=
  let old := s.fw.sequence
  let dropped := (List.finRange 32).filter (fun f =>
    period == 0 || (old.contains f && !seq.contains f))
  let s := dropped.foldl (fun s f => dropWatch f s) s
  let s := seq.foldl (fun s f => listWatch old f s) s
  { s with fw := { s.fw with
      sequence := seq
      period := period
      base := if period = 0 then s.fw.base else s.wall
      nextExpiry := if period = 0 then s.fw.nextExpiry else s.wall + periodTicks period } }

/-- SET WATCH's checks and effect (R148, R173). A count above 32 belongs to the body's form and is
judged before a running sweep (DEDUCED, assumption log 15). -/
def setWatchReply (body : List Byte) (s : State) : Reply :=
  if 32 < field 1 1 body then .refused .badValue
  else if s.fw.sweep.isSome then .refused .busy
  else
    match parseFeeds (slice 2 (field 1 1 body) body) with
    | none => .refused .badValue
    | some seq =>
      if seq.Nodup then .accepted [] (writeWatch seq (field 0 1 body) s) else .refused .badValue

/-- SET_WATCH (R148). -/
def execSetWatch (s : State) : Host.Outcome State Fault Refusal :=
  running (take .setWatch setWatchReply) s

/-- One listed feed in a GET WATCH response (R175). -/
def watchBytes (f : FeedNo) (s : State) : List Byte :=
  let w := s.watchEntry f
  be 1 f ++ be 4 w.bytes.toNat ++ be 1 w.verdict.code ++ optBytes 6 (w.time.map BitVec.toNat) ++
    be 1 (s.feed f).starved ++ [flagByte (s.feed f).throttled]

/-- The data of a GET WATCH response (R153, R175). -/
def watchData (s : State) : List Byte :=
  be 1 s.fw.period ++ be 1 s.fw.sequence.length ++ s.fw.sequence.flatMap (fun f => watchBytes f s)

/-- GET WATCH's check and data (R153). -/
def getWatchReply (_body : List Byte) (s : State) : Reply :=
  if s.fw.sweep.isSome then .refused .busy else .accepted (watchData s) s

/-- GET_WATCH (R153). -/
def execGetWatch (s : State) : Host.Outcome State Fault Refusal :=
  running (take .getWatch getWatchReply) s

/-! ### SET ORIGINS (R156) -/

/-- SET ORIGINS's check and effect (R156, R173). -/
def setOriginsReply (body : List Byte) (s : State) : Reply :=
  let count := field 0 1 body
  if 4 < count then .refused .badValue
  else
    .accepted [] { s with mu := { s.mu with
      origins := parseOrigins count (body.drop 7)
      address := BitVec.ofNat 48 (field 1 6 body) } }

/-- SET_ORIGINS (R156). -/
def execSetOrigins (s : State) : Host.Outcome State Fault Refusal :=
  running (take .setOrigins setOriginsReply) s

/-! ### Status (R161, R166, R174) -/

/-- The flag snapshot of R174. -/
def flagSnapshot (s : State) : List Byte :=
  [s.mu.devFlags.setWidth 8, s.sw.records.index.setWidth 8, s.sw.records.essence.setWidth 8,
    s.sw.records.browse.setWidth 8] ++ s.mu.feedFlags.toList.map (fun b => b.setWidth 8)

/-- The data of a GET STATUS response (R161, R175). -/
def statusData (s : State) : List Byte :=
  flagSnapshot s ++ be 4 s.smc.occupancy ++ be 1 s.smc.level ++
    [flagByte s.smc.pressure, flagByte s.storCarrier, flagByte s.holdLine,
      flagByte s.sw.settings.peer.isSome, flagByte s.sw.paused.index, flagByte s.sw.paused.essence,
      flagByte s.sw.paused.browse] ++ be 4 (storeCount s)

/-- GET STATUS (R161). -/
def getStatusReply (_body : List Byte) (s : State) : Reply := .accepted (statusData s) s

/-- GET_STATUS (R161). -/
def execGetStatus (s : State) : Host.Outcome State Fault Refusal :=
  running (take .getStatus getStatusReply) s

/-- Byte `i` of a snapshot. -/
def snapByte (snap : List Byte) (i : Nat) : Byte := snap.getD i 0

/-- The snapshot clear of R166. -/
def clearFlags (snap : List Byte) (s : State) : State :=
  { s with
    mu := { s.mu with
      devFlags := snapClear s.mu.devFlags (snapByte snap 0)
      feedFlags := Vector.ofFn (fun f => snapClear (s.flagsOf f) (snapByte snap (4 + f.val))) }
    sw := { s.sw with
      records :=
        { index := snapClear s.sw.records.index (snapByte snap 1)
          essence := snapClear s.sw.records.essence (snapByte snap 2)
          browse := snapClear s.sw.records.browse (snapByte snap 3) } } }

/-- CLEAR STATUS (R166). -/
def clearStatusReply (body : List Byte) (s : State) : Reply :=
  .accepted (flagSnapshot (clearFlags body s)) (clearFlags body s)

/-- CLEAR_STATUS (R166). -/
def execClearStatus (s : State) : Host.Outcome State Fault Refusal :=
  running (take .clearStatus clearStatusReply) s

/-! ### Counters (R162) -/

/-- The counters of scope DEVICE in the order of R175. -/
def deviceCounterBytes (s : State) : List Byte :=
  s.port.bytes ++ counterBytes s.smc.raises ++ counterBytes s.fw.sweeps ++ s.bu.counters.bytes ++
    s.sw.counters.index.bytes ++ s.sw.counters.essence.bytes ++ s.sw.counters.browse.bytes ++
    [s.sw.stray, s.sw.readies, s.sw.foreign, s.mu.refusedOrigin, s.mu.malformedRequests,
      s.mu.requestsDropped, s.mu.noticesUnsent].flatMap counterBytes

/-- Every counter of scope DEVICE set to 0. -/
def zeroDeviceCounters (s : State) : State :=
  { s with
    port := PortCounters.zero
    smc := { s.smc with raises := 0 }
    fw := { s.fw with sweeps := 0 }
    bu := { s.bu with counters := BrowseCounters.zero }
    sw := { s.sw with
      counters := ⟨ClassCounters.zero, ClassCounters.zero, ClassCounters.zero⟩
      stray := 0, readies := 0, foreign := 0 }
    mu := { s.mu with
      refusedOrigin := 0, malformedRequests := 0, requestsDropped := 0, noticesUnsent := 0 } }

/-- Every counter of a feed set to 0. -/
def zeroFeedCounters (f : FeedNo) (s : State) : State := countFeed f (fun _ => FeedCounters.zero) s

/-- The clear choice of a GET COUNTERS: 0 reads, 1 reads and clears, any other byte is out of range
(DEDUCED, assumption log 16). -/
def withClear (body : List Byte) (g : Bool → Reply) : Reply :=
  match boolOfCode (field 2 1 body) with
  | none => .refused .badValue
  | some clear => g clear

/-- GET COUNTERS's checks, data and clear (R162, R159 step 3). -/
def getCountersReply (body : List Byte) (s : State) : Reply :=
  match boolOfCode (field 0 1 body) with
  | none => .refused .badValue
  | some false =>
    withClear body fun clear =>
      .accepted (deviceCounterBytes s) (if clear then zeroDeviceCounters s else s)
  | some true =>
    withFeed 1 body fun f =>
      withClear body fun clear =>
        .accepted (s.feed f).counters.bytes (if clear then zeroFeedCounters f s else s)

/-- GET_COUNTERS (R162). -/
def execGetCounters (s : State) : Host.Outcome State Fault Refusal :=
  running (take .getCounters getCountersReply) s

/-! ### RESET DEVICE and unknown kinds (R167, R159) -/

/-- RESET DEVICE (R167): the DONE response; the reset itself is RESET_TAKES_EFFECT. -/
def resetDeviceReply (_body : List Byte) (s : State) : Reply := .accepted [] s

/-- RESET_DEVICE (R167). -/
def execResetDevice (s : State) : Host.Outcome State Fault Refusal :=
  running (take .resetDevice resetDeviceReply) s

/-- A request of an unknown kind (R159 step 1). -/
def unknownReply (_body : List Byte) (_s : State) : Reply := .refused .badValue

/-- UNKNOWN_KIND_REQUEST (R159). -/
def execUnknownKindRequest (s : State) : Host.Outcome State Fault Refusal :=
  running (take .unknown unknownReply) s

end Sys2Proof.Machine
end

