-- ==== Sys2Proof/Machine/Device.lean ====
section
/-! DEFINITION. The resets of the whole part: the reset line (R1) and RESET DEVICE taking effect
(R167). -/

namespace Sys2Proof.Machine

/-- What no reset reaches, carried from `s` into `t`: the levels of the input lines, the waiting
commands, and the model's numbers of deliveries, sent frames and writes, so that no free value is asked
for twice (assumption log 5). -/
def keepOutside (s t : State) : State :=
  { t with
    contribCarrier := s.contribCarrier
    storCarrier := s.storCarrier
    holdLine := s.holdLine
    bu := { t.bu with serial := s.bu.serial }
    mu := { t.mu with sent := s.mu.sent }
    nextSerial := s.nextSerial
    pending := s.pending }

/-- Power-on reset, taken at the release of the reset line: every block at its power-on values (R1, R19,
R36, R56, R81, R101, R118, R141, R147, R155, R170). -/
def powerOn (s : State) : State := keepOutside s State.reset

/-- POWER_ON_RESET (R1). -/
def execPowerOnReset (s : State) : Host.Outcome State Fault Refusal := .next (powerOn s)

/-- The reset line is asserted: the wall counter stands at 0 (R1). The other state is written at the
release. -/
def execResetLineAsserted (s : State) : Host.Outcome State Fault Refusal :=
  .next { s with resetLine := true, wall := 0 }

/-- The retired IDs after RESET DEVICE: those retired before and those of the abandoned writes, each
taken as retired at wall time 0 (R167, R123). -/
def retiredAfterReset (s : State) : List RetiredId :=
  s.sw.retired.map (fun r => { r with since := 0 }) ++
    (window s).filterMap (fun e => e.flight.map (fun fl => ⟨fl.id, 0, s.sw.settings.ackTimeout⟩))

/-- The Storage Writer after RESET DEVICE: settings, last used ID and retired IDs kept (R141). -/
def storageAfterReset (s : State) : StorageWriter :=
  { State.reset.sw with
    settings := s.sw.settings
    lastUsed := s.sw.lastUsed
    retired := retiredAfterReset s
    lastMessages := s.sw.lastMessages }

/-- The Management Unit after RESET DEVICE: origin list, contribution address and transmit queue kept
(R170). -/
def managementAfterReset (s : State) : Mgmt :=
  { State.reset.mu with
    origins := s.mu.origins
    address := s.mu.address
    tx := s.mu.tx
    lastSent := s.mu.lastSent }

/-- RESET DEVICE takes effect once its DONE response is in the transmit queue (R167). Without one due,
nothing changes. -/
def resetEffect (s : State) : State :=
  if s.mu.resetDue then
    keepOutside s
      { State.reset with
        smc := { State.reset.smc with level := s.smc.level }
        bu := { State.reset.bu with durA := s.bu.durA, durB := s.bu.durB }
        sw := storageAfterReset s
        mu := managementAfterReset s }
  else s

/-- RESET_TAKES_EFFECT (R167). -/
def execResetTakesEffect (s : State) : Host.Outcome State Fault Refusal := running resetEffect s

end Sys2Proof.Machine
end

