-- ==== Sys2Proof/Machine/Clock.lean ====
section
/-! DEFINITION. What the part does of itself when no command waits: the step that is due, or one tick of
the Time Base (DESIGN CHOICE, assumption log 1). -/

namespace Sys2Proof.Machine

/-- The row that takes a request of a kind. -/
def RequestKind.row : RequestKind → Instr
  | .setFeed => .setFeed
  | .getFeed => .getFeed
  | .enableFeed => .enableFeed
  | .disableFeed => .disableFeed
  | .stageFeed => .stageFeed
  | .openClip => .openClip
  | .closeClip => .closeClip
  | .releaseClip => .releaseClip
  | .getClip => .getClip
  | .setStorage => .setStorage
  | .setDevice => .setDevice
  | .setWatch => .setWatch
  | .getWatch => .getWatch
  | .setOrigins => .setOrigins
  | .getStatus => .getStatus
  | .clearStatus => .clearStatus
  | .getCounters => .getCounters
  | .resetDevice => .resetDevice
  | .unknown => .unknownKindRequest

/-- The request row due (R158): the oldest request, while no response waits. -/
def dueRequest (s : State) : Option Instr :=
  if s.mu.waiting.isSome then none
  else s.mu.requests.head?.map (fun r => (RequestKind.ofCode r.kind).row)

/-- What one block has handed to another and no block has taken yet (R31, R32, R49, R151), and the next
check of a running sweep (R149). -/
def dueHandOff (s : State) : Option Instr :=
  match s.handedUnits, s.handedFrames, s.fw.losses, s.fw.pacing with
  | u :: _, _, _, _ => some (.faTakeUnit u.feed)
  | [], h :: _, _, _ => some (.frameAdmission h.feed h.frame.kind)
  | [], [], f :: _, _ => some (.feedLost f)
  | [], [], [], f :: _ => some (.pacingFill f)
  | [], [], [], [] => if s.fw.sweep.isSome then some .watchCheck else none

/-- Some open context has expired (R51). -/
def contextDue (s : State) : Bool :=
  (List.finRange 32).any (fun f =>
    (s.contextsOf f).any (contextExpired (s.feed f).cfg.asmTimeout s.wall))

/-- A step that the present wall time calls for: at any tick (R108, R130, R149), or at a millisecond
step (R51, R64, R123, R132). -/
def dueTimed (s : State) : Option Instr :=
  if stepDue s then some .stepEnd
  else if s.sw.queue.any (backoffDue s.wall) then some .backoffEnd
  else if msStep s && contextDue s then some .contextExpiry
  else
    match (List.finRange 32).find? (fun f => holdDue f s) with
    | some f => some (.reorderHoldExpiry f)
    | none =>
      if msStep s && (firstTimedOut s).isSome then some .ackTimeout
      else if msStep s && s.sw.retired.any (retirementOver s.wall) then some .retiredIdFreed
      else if expiryDue s then some .periodExpiry
      else none

/-- The step that the part takes next of itself; none while the reset line is asserted. The spec lets
steps that fall together be taken in any order; this order is the model's (assumption log 1). -/
def dueCommand (s : State) : Option Instr :=
  if s.resetLine then none
  else if s.mu.resetDue then some .resetTakesEffect
  else
    match dueHandOff s with
    | some c => some c
    | none =>
      match dueTimed s with
      | some c => some c
      | none => dueRequest s

/-- With no step due, one cycle of the reference clock line passes (R1). A notice formed later no longer
meets a join of this wall time. -/
def tick (s : State) : State :=
  if s.resetLine then s else { fixJoin s with wall := s.wall + 1 }

end Sys2Proof.Machine
end

