-- ==== Sys2Proof/Machine/Dispatch.lean ====
section
/-! DEFINITION. The dispatch of the 46 rows of spec/opcode_table.json to their meanings. -/

namespace Sys2Proof.Machine

def exec (i : Instr) (s : State) : Host.Outcome State Fault Refusal :=
  match i with
  | .powerOnReset => Sys2Proof.Machine.execPowerOnReset s
  | .contributionFrameReceived f => Sys2Proof.Machine.execContributionFrameReceived f s
  | .contributionCarrierLoss => Sys2Proof.Machine.execContributionCarrierLoss s
  | .contributionCarrierReturn => Sys2Proof.Machine.execContributionCarrierReturn s
  | .transmitFrameSent => Sys2Proof.Machine.execTransmitFrameSent s
  | .faTakeUnit feed => Sys2Proof.Machine.execFaTakeUnit feed s
  | .frameAdmission feed kind => Sys2Proof.Machine.execFrameAdmission feed kind s
  | .contextExpiry => Sys2Proof.Machine.execContextExpiry s
  | .reorderHoldExpiry feed => Sys2Proof.Machine.execReorderHoldExpiry feed s
  | .pacingFill feed => Sys2Proof.Machine.execPacingFill feed s
  | .feedLost feed => Sys2Proof.Machine.execFeedLost feed s
  | .periodExpiry => Sys2Proof.Machine.execPeriodExpiry s
  | .watchCheck => Sys2Proof.Machine.execWatchCheck s
  | .stepEnd => Sys2Proof.Machine.execStepEnd s
  | .writeAnswer f => Sys2Proof.Machine.execWriteAnswer f s
  | .ready f => Sys2Proof.Machine.execReady f s
  | .storageForeignFrame f => Sys2Proof.Machine.execStorageForeignFrame f s
  | .lastPieceSent => Sys2Proof.Machine.execLastPieceSent s
  | .backoffEnd => Sys2Proof.Machine.execBackoffEnd s
  | .ackTimeout => Sys2Proof.Machine.execAckTimeout s
  | .retiredIdFreed => Sys2Proof.Machine.execRetiredIdFreed s
  | .linkLoss => Sys2Proof.Machine.execLinkLoss s
  | .carrierReturn => Sys2Proof.Machine.execCarrierReturn s
  | .storageHoldAsserted => Sys2Proof.Machine.execStorageHoldAsserted s
  | .storageHoldReleased => Sys2Proof.Machine.execStorageHoldReleased s
  | .setFeed => Sys2Proof.Machine.execSetFeed s
  | .getFeed => Sys2Proof.Machine.execGetFeed s
  | .enableFeed => Sys2Proof.Machine.execEnableFeed s
  | .disableFeed => Sys2Proof.Machine.execDisableFeed s
  | .stageFeed => Sys2Proof.Machine.execStageFeed s
  | .openClip => Sys2Proof.Machine.execOpenClip s
  | .closeClip => Sys2Proof.Machine.execCloseClip s
  | .releaseClip => Sys2Proof.Machine.execReleaseClip s
  | .getClip => Sys2Proof.Machine.execGetClip s
  | .setStorage => Sys2Proof.Machine.execSetStorage s
  | .setDevice => Sys2Proof.Machine.execSetDevice s
  | .setWatch => Sys2Proof.Machine.execSetWatch s
  | .getWatch => Sys2Proof.Machine.execGetWatch s
  | .setOrigins => Sys2Proof.Machine.execSetOrigins s
  | .getStatus => Sys2Proof.Machine.execGetStatus s
  | .clearStatus => Sys2Proof.Machine.execClearStatus s
  | .getCounters => Sys2Proof.Machine.execGetCounters s
  | .resetDevice => Sys2Proof.Machine.execResetDevice s
  | .unknownKindRequest => Sys2Proof.Machine.execUnknownKindRequest s
  | .resetTakesEffect => Sys2Proof.Machine.execResetTakesEffect s
  | .resetLineAsserted => Sys2Proof.Machine.execResetLineAsserted s

end Sys2Proof.Machine
end

