-- ==== Sys2Proof/Machine/Step.lean ====
section
/-! DEFINITION. The step of the machine: the command at the front of the queue, or what the part does of
itself when no command waits. -/

namespace Sys2Proof.Machine

/-- One step. A waiting command is taken out of the queue and executed on the rest. With an empty queue
the part takes its own due step, and with none due the Time Base counts one tick (DESIGN CHOICE,
assumption log 1). -/
def step (s : State) : Host.Outcome State Fault Refusal :=
  match s.pending with
  | c :: rest => exec c { s with pending := rest }
  | [] =>
    match dueCommand s with
    | some c => exec c s
    | none => .next (tick s)

/-- The state with the command that a table word spells put at the front of its queue; unchanged where
the word spells none. -/
def State.withFetchWord (s : State) (nbits w : Nat) : State :=
  match decodeTableWord nbits w with
  | some c => { s with pending := c :: s.pending }
  | none => s

end Sys2Proof.Machine
end

