-- ==== Sys2Proof/Safety.lean ====
section
/-! DEFINITION. What counts as a sound state and a safe run of the part, in the terms that the statements
use: the bounds and agreements of the spec's tables, the situations in which a command is taken, and the
bodies that a management station sends. -/

namespace Sys2Proof.Machine

/-! ### Situations -/

/-- The contribution port receives: no reset, and carrier (R36, R167). -/
abbrev Receiving (s : State) : Prop :=
  s.resetLine = false ∧ s.contribCarrier = true ∧ s.mu.resetDue = false

/-- The MU is about to take the request `r`, of kind `k`, in front of `rs` (R158). -/
abbrev ReadyFor (k : RequestKind) (r : Request) (rs : List Request) (s : State) : Prop :=
  s.resetLine = false ∧ s.mu.waiting = none ∧ s.mu.resetDue = false ∧ s.mu.requests = r :: rs ∧
    RequestKind.ofCode r.kind = k

/-- The transmit queue has room for `n` more frames (R163). -/
abbrev TxRoomFor (n : Nat) (s : State) : Prop := s.mu.tx.length + n ≤ 16

/-- No waiting head could be placed now: every offer of R69 has been made. -/
abbrev Settled (s : State) : Prop := firstWaiting s = none

/-- Every staging ring but that of `f` is empty. -/
abbrev OnlyRing (f : FeedNo) (s : State) : Prop := ∀ g : FeedNo, g ≠ f → s.ring g = []

/-- Every feed but `f` keeps its entry, contexts, ring, holding, status flags and watch table entry. -/
abbrev OtherFeedsKept (f : FeedNo) (s t : State) : Prop :=
  ∀ g : FeedNo, g ≠ f → t.feed g = s.feed g ∧ t.contextsOf g = s.contextsOf g ∧ t.ring g = s.ring g ∧
    t.holding g = s.holding g ∧ t.flagsOf g = s.flagsOf g ∧ t.watchEntry g = s.watchEntry g

/-- Feed `f` records into clip `c`, whose cursor is `u` and whose open segment is `g`. -/
abbrev Recording (f : FeedNo) (c : ClipNo) (u : Cursor) (g : Segment) (s : State) : Prop :=
  s.resetLine = false ∧ (s.feed f).state = .recording ∧ (s.feed f).clip = some c ∧
    (s.clip c).feed = f ∧ (s.clip c).state = .recording ∧ (s.clip c).cursor = some u ∧
    (s.clip c).openSeg = some g

/-- The FR takes from `fr` a unit that passes the check, of class MEDIA or VOID, and matches it to feed
`f` (R23, R26). -/
abbrev Recognised (fr : EthFrame) (src : Addr) (u : UnitView) (f : FeedNo) (s : State) : Prop :=
  Receiving s ∧ classify fr = .unit src u ∧ u.passes = true ∧ (u.cls = 1 ∨ u.cls = 2) ∧
    matchFeed u.tag src s = some f

/-- The FA is about to take unit `u` for feed `f`, which records (R38). -/
abbrev Taking (f : FeedNo) (u : HandedUnit) (s : State) : Prop :=
  s.resetLine = false ∧ s.handedUnits.find? (fun x => x.feed == f) = some u ∧
    (s.feed f).state = .recording

/-- The SMC grants feed `f` a request of `n` blocks once `back` of its blocks have been returned (R45). -/
abbrev RoomFor (f : FeedNo) (n back : Nat) (s : State) : Prop :=
  s.holding f - back + n ≤ (s.feed f).cfg.quota ∧ n ≤ 65536 - (s.smc.occupancy - back)

/-- The PE is about to take `fr`, of kind `k`, handed on for feed `f`, which is RECORDING with the current
clip `c` and its cursor `u` (R58, R61). -/
abbrev Admitting (f : FeedNo) (k : FrameKind) (c : ClipNo) (u : Cursor) (fr : Frame) (s : State) : Prop :=
  s.resetLine = false ∧ (s.feed f).state = .recording ∧ (s.feed f).clip = some c ∧
    (s.clip c).cursor = some u ∧ nextFrame f k s = some ⟨f, fr⟩

/-- The storage port has received an answer for the write `e` of the window (R125). -/
abbrev AnswerFor (fr : EthFrame) (result : Byte) (e : WriteEntry) (s : State) : Prop :=
  s.resetLine = false ∧ s.storCarrier = true ∧
    ∃ id : Byte, classifyStorage s.sw.settings.peer fr = .answer id result ∧
      inFlight id s = some e

/-! ### Responses -/

/-- The response to a request as it is formed now (R159, R163). -/
def responseTo (r : Request) (res : Result) (data : List Byte) (s : State) : TxFrame :=
  ⟨r.origin, s.mu.address, s.wall, responseBody r res data⟩

/-- The state in which the response has joined the transmit queue and the request has left its queue
(R158); the take ends any meeting of an earlier response's join with a notice. -/
def responded (r : Request) (rs : List Request) (res : Result) (data : List Byte) (s : State) : State :=
  { s with mu := { s.mu with tx := s.mu.tx ++ [responseTo r res data s], requests := rs, joined := none } }

/-! ### Bodies of requests (R173) -/

/-- Each field of a configuration fits the bytes that R173 gives it, whatever its range. -/
abbrev FeedConfig.FitsItsBytes (c : FeedConfig) : Prop :=
  c.unitSize < 2 ^ 16 ∧ c.period < 2 ^ 32 ∧ c.depth < 2 ^ 8 ∧ c.quota < 2 ^ 16 ∧ c.hold < 2 ^ 16 ∧
    c.asmTimeout < 2 ^ 16 ∧ (∀ l ∈ c.clipLimit, l < 2 ^ 32) ∧ c.staged.bn < 2 ^ 8 ∧
    c.staged.bd < 2 ^ 8 ∧ c.staged.segLen < 2 ^ 16 ∧ c.staged.fillLimit < 2 ^ 8 ∧
    c.browseUnits < 2 ^ 8 ∧ c.startLabel.hh < 2 ^ 8 ∧ c.startLabel.mm < 2 ^ 8 ∧
    c.startLabel.ss < 2 ^ 8 ∧ c.startLabel.ff < 2 ^ 8 ∧ c.lostSweeps < 2 ^ 8 ∧ c.pacing < 2 ^ 8

/-- The fields of a SET STORAGE. -/
def storageBody (t : StorageSettings) : List Byte :=
  optBytes 6 (t.peer.map BitVec.toNat) ++ be 6 t.port.toNat ++ be 1 t.ackTimeout ++ be 1 t.backoff ++
    [t.policy.index, t.policy.essence, t.policy.browse].flatMap (fun p =>
      be 1 (match p with | .wait => 0 | .retry => 1 | .shed => 2)) ++
    [t.retry.index, t.retry.essence, t.retry.browse].flatMap (be 1)

/-- The ranges of R119. -/
abbrev StorageSettings.InRange (t : StorageSettings) : Prop :=
  1 ≤ t.ackTimeout ∧ t.ackTimeout ≤ 255 ∧ 1 ≤ t.backoff ∧ t.backoff ≤ 255 ∧ t.retry.index ≤ 7 ∧
    t.retry.essence ≤ 7 ∧ t.retry.browse ≤ 7

/-- The fields of a SET WATCH. -/
def watchBody (period : Nat) (seq : List FeedNo) : List Byte :=
  be 1 period ++ be 1 seq.length ++ seq.flatMap (fun f => be 1 f)

/-- The fields of a SET ORIGINS. -/
def originsBody (address : Addr) (origins : List Addr) : List Byte :=
  be 1 origins.length ++ be 6 address.toNat ++ origins.flatMap (fun a => be 6 a.toNat)

/-! ### Data of responses (R173, R175) -/

/-- A value that may be absent stands at an offset: its present byte, and behind it the value at its full
width of `w` bytes, zero where it is absent (R175). -/
abbrev OptAt (off w : Nat) (v : Option Nat) (d : List Byte) : Prop :=
  field off 1 d = (if v.isSome then 1 else 0) ∧ field (off + 1) w d = v.getD 0 % 2 ^ (8 * w)

/-- A staged set stands at an offset: browse mode, bn, bd, S and F (R175). -/
abbrev StagedAt (off : Nat) (v : StagedSet) (d : List Byte) : Prop :=
  field off 1 d = (match v.mode with | .off => 0 | .ratio => 1 | .marked => 2) ∧
    field (off + 1) 1 d = v.bn % 2 ^ 8 ∧ field (off + 2) 1 d = v.bd % 2 ^ 8 ∧
    field (off + 3) 2 d = v.segLen % 2 ^ 16 ∧ field (off + 5) 1 d = v.fillLimit % 2 ^ 8

/-- The 59 configuration bytes stand at the start: the fields of section 1.2 in the order of its table, at
the widths and with the codes of R173. -/
abbrev ConfigAt (c : FeedConfig) (d : List Byte) : Prop :=
  field 0 2 d = c.tag.toNat ∧ field 2 6 d = c.origin.toNat ∧ field 8 2 d = c.unitSize % 2 ^ 16 ∧
    field 10 4 d = c.period % 2 ^ 32 ∧ field 14 1 d = c.depth % 2 ^ 8 ∧
    field 15 2 d = c.quota % 2 ^ 16 ∧ field 17 1 d = c.staged.fillLimit % 2 ^ 8 ∧
    field 18 2 d = c.hold % 2 ^ 16 ∧ field 20 2 d = c.asmTimeout % 2 ^ 16 ∧
    field 22 2 d = c.staged.segLen % 2 ^ 16 ∧ OptAt 24 4 c.clipLimit d ∧
    field 29 1 d = (match c.atLimit with | .stop => 0 | .split => 1) ∧
    field 30 1 d = (match c.staged.mode with | .off => 0 | .ratio => 1 | .marked => 2) ∧
    field 31 1 d = c.staged.bn % 2 ^ 8 ∧ field 32 1 d = c.staged.bd % 2 ^ 8 ∧
    field 33 1 d = c.browseUnits % 2 ^ 8 ∧ field 34 1 d = (match c.cost with | .a => 0 | .b => 1) ∧
    field 35 1 d = c.startLabel.hh % 2 ^ 8 ∧ field 36 1 d = c.startLabel.mm % 2 ^ 8 ∧
    field 37 1 d = c.startLabel.ss % 2 ^ 8 ∧ field 38 1 d = c.startLabel.ff % 2 ^ 8 ∧
    field 39 4 d = c.handleNext.toNat ∧ field 43 4 d = c.handleCeiling.toNat ∧
    field 47 1 d = (match c.watchMode with | .off => 0 | .floor => 1 | .ceiling => 2 | .both => 3) ∧
    field 48 4 d = c.floor.toNat ∧ field 52 4 d = c.ceiling.toNat ∧
    field 56 1 d = c.lostSweeps % 2 ^ 8 ∧ field 57 1 d = c.pacing % 2 ^ 8 ∧
    field 58 1 d = (if c.autoResume then 1 else 0)

/-- The bytes are those of some counters in order, four for each (R175). -/
abbrev CountersAt (cs : List Counter) (d : List Byte) : Prop :=
  d.length = 4 * cs.length ∧ ∀ i c, cs[i]? = some c → field (4 * i) 4 d = c.toNat

/-- The bytes that a request's payload needs by its kind value: the lengths of R173, of which the opening
takes four. -/
def lengthOfKind (r : Request) : Nat :=
  match r.kind.toNat with
  | 0x01 => 64 | 0x02 => 5 | 0x03 => 5 | 0x04 => 5 | 0x05 => 11 | 0x06 => 10 | 0x07 => 5 | 0x08 => 5
  | 0x09 => 5 | 0x0A => 25 | 0x0B => 7 | 0x0C => 6 + field 1 1 r.body | 0x0D => 4
  | 0x0E => 11 + 6 * field 0 1 r.body | 0x0F => 4 | 0x10 => 40 | 0x11 => 7 | 0x12 => 4 | _ => 4

/-! ### Counting received frames (section 2.8) -/

/-- The counters of which each received frame increases exactly one (section 2.8): seven of the port, and
two of each feed. -/
def receiveCounters (s : State) : List Counter :=
  [s.port.damaged, s.port.foreign, s.port.truncated, s.port.unknownClass, s.port.badCheck,
      s.port.management, s.port.unmatched] ++
    (List.finRange 32).flatMap (fun f =>
      [(s.feed f).counters.unitsReceived, (s.feed f).counters.badCheck])

/-! ### Closed segments (R91) -/

/-- The clip's closed segments are the former ones, with their records and unanswered writes, and `x`
behind them. -/
def OneMoreClosed (k l : Clip) (x : ClosedSegment) : Prop :=
  ∃ gs : List ClosedSegment, l.closed = gs ++ [x] ∧
    gs.map (fun g => (g.record, g.unanswered)) = k.closed.map (fun g => (g.record, g.unanswered))

/-! ### Late holes (R113) -/

/-- A late hole is recorded (R113): the pick joins the hole list of its segment at its place, where that
is the open segment of a clip in RECORDING and its list has room, and is counted as unlisted otherwise. -/
def LateHoleTaken (c : ClipNo) (segment pick : Nat) (s t : State) : Prop :=
  if ∃ g ∈ (s.clip c).openSeg, (s.clip c).state = .recording ∧ g.number = segment ∧ g.holes.length < 200
  then
    t.bu.counters.unlisted = s.bu.counters.unlisted ∧
      ∃ g ∈ (s.clip c).openSeg, ∃ hs : List Nat,
        t.clip c = { s.clip c with
          holes := (s.clip c).holes + 1, openSeg := some { g with holes := hs } } ∧
        hs.Perm (pick :: g.holes) ∧
        (g.holes.Pairwise (· < ·) → pick ∉ g.holes → hs.Pairwise (· < ·))
  else
    t.bu.counters.unlisted = bump s.bu.counters.unlisted ∧ t.clip c = s.clip c

/-- The entry is the BROWSE write of a reduction's result, as R110 lays it out. -/
def BrowseWriteOf (x : Reduction) (s : State) (e : WriteEntry) : Prop :=
  e.cls = .browse ∧ e.clip = x.clip ∧ e.segment = x.segment ∧
    e.handle = (s.clip x.clip).browseHandle ∧ e.offset = x.pick * x.outSize ∧
    e.length = x.outSize ∧ e.attempts = 0 ∧
    ∃ n, e.data = .reduced n x.pick ((x.outSize + 65535) / 65536)

/-! ### Sound states -/

/-- The queues of the MU keep their sizes, and a response waits only for a full transmit queue (R156, R157,
R163). -/
abbrev MuBounded (s : State) : Prop :=
  s.mu.tx.length ≤ 16 ∧ s.mu.requests.length ≤ 8 ∧ s.mu.origins.length ≤ 4 ∧
    (s.mu.waiting.isSome = true → s.mu.tx.length = 16)

/-- The write queue keeps its two parts (R120). -/
abbrev WriteQueueBounded (s : State) : Prop := shareUsed s ≤ 224 ∧ reserveUsed s ≤ 32

/-- The IDs held by the writes of the window. -/
def windowIds (s : State) : List (BitVec 8) := (window s).filterMap (fun e => e.flight.map (·.id))

/-- The model's numbers tell writes apart, the window keeps its size, and no two of its writes hold one
ID (R123). -/
abbrev WindowSound (s : State) : Prop :=
  (s.sw.queue.map (·.serial)).Nodup ∧ (∀ e ∈ s.sw.queue, e.serial < s.nextSerial) ∧
    (window s).length ≤ 16 ∧ (windowIds s).Nodup

/-- At most four contexts of a feed are open, with distinct stamps (R37, R41). -/
abbrev ContextsBounded (s : State) : Prop :=
  ∀ f : FeedNo, (s.contextsOf f).length ≤ 4 ∧ ((s.contextsOf f).map (·.stamp)).Nodup

/-- In every record, placed frames equals essence frames plus REPEAT fill frames plus VOID fill frames
(R82). -/
abbrev ClipCountsAgree (s : State) : Prop :=
  ∀ c : ClipNo, (s.clip c).placed = (s.clip c).essence + (s.clip c).repeats + (s.clip c).voids

/-- Publication (R93, R94, R95): only a clip in RECORDING or DRAINING has closed segments; their numbers
follow one another from the records published, with the open segment's number behind them; only the last
of them can be final, and only the first can have been handed on, with none of its ESSENCE writes
unanswered and its INDEX write in the queue. -/
abbrev ClosedSegmentsInOrder (s : State) : Prop :=
  ∀ c : ClipNo,
    ((s.clip c).closed ≠ [] → (s.clip c).state = .recording ∨ (s.clip c).state = .draining) ∧
    (s.clip c).closed.map (·.record.number) =
      (List.range (s.clip c).closed.length).map ((s.clip c).records + ·) ∧
    (∀ g ∈ (s.clip c).openSeg, g.number = (s.clip c).records + (s.clip c).closed.length) ∧
    (∀ g ∈ (s.clip c).closed.dropLast, g.record.final = none) ∧
    (∀ g ∈ (s.clip c).closed.tail, g.handed = false) ∧
    ∀ g ∈ (s.clip c).closed.head?, g.handed = true → g.unanswered = [] ∧
      ∃ e ∈ s.sw.queue, e.cls = .index ∧ e.clip = c

/-- The write queue's part of publication (R93, R94, R95): no two INDEX writes are of one clip; the INDEX
write of a clip that has not failed is that of its first closed segment, handed on, with the record's
offset and data; and an ESSENCE write of such a clip is unanswered in the segment it names. -/
abbrev WritesFollowSegments (s : State) : Prop :=
  ((s.sw.queue.filter (fun e => e.cls == .index)).map (·.clip)).Nodup ∧
  (∀ e ∈ s.sw.queue, e.cls = .index → (s.clip e.clip).state ≠ .failed →
    ∃ g ∈ (s.clip e.clip).closed.head?, g.handed = true ∧ e.segment = g.record.number ∧
      e.offset = 4096 * g.record.number ∧ e.data = .record g.record) ∧
  (∀ e ∈ s.sw.queue, e.cls = .essence → (s.clip e.clip).state ≠ .failed →
    (∃ g ∈ (s.clip e.clip).openSeg, g.number = e.segment ∧ e.serial ∈ g.unanswered) ∨
    ∃ g ∈ (s.clip e.clip).closed, g.record.number = e.segment ∧ e.serial ∈ g.unanswered)

/-- A clip's INDEX writes are handed on one at a time, in segment order, each behind the ESSENCE writes of
its segment (R94). -/
abbrev PublicationInOrder (s : State) : Prop := ClosedSegmentsInOrder s ∧ WritesFollowSegments s

/-- The clip is placed: it is in OPEN or RECORDING. -/
abbrev BeingPlaced (k : Clip) : Prop := k.state = .opened ∨ k.state = .recording

/-- The Feed Table and the Clip Table agree: a feed has a current clip exactly while it is RECORDING
(R8), that clip is in OPEN or RECORDING and every such clip is its feed's current clip (R83), exactly
these clips have a cursor and an open segment (R57, R82), the cursor's next index is the placed count and
it has no origin exactly in OPEN (R57), and none of them has a final record waiting. -/
abbrev FeedsAndClipsAgree (s : State) : Prop :=
  (∀ f : FeedNo, (s.feed f).clip.isSome ↔ (s.feed f).state = .recording) ∧
  (∀ f : FeedNo, ∀ c ∈ (s.feed f).clip, (s.clip c).feed = f ∧ BeingPlaced (s.clip c)) ∧
  (∀ c : ClipNo, BeingPlaced (s.clip c) → (s.feed (s.clip c).feed).clip = some c) ∧
  (∀ c : ClipNo, (s.clip c).cursor.isSome ↔ BeingPlaced (s.clip c)) ∧
  (∀ c : ClipNo, (s.clip c).openSeg.isSome ↔ BeingPlaced (s.clip c)) ∧
  (∀ c : ClipNo, ∀ u ∈ (s.clip c).cursor, u.next = (s.clip c).placed ∧
    (u.origin = none ↔ (s.clip c).state = .opened)) ∧
  (∀ c : ClipNo, BeingPlaced (s.clip c) → ∀ g ∈ (s.clip c).closed, g.record.final = none)

/-- No two entries outside OFF share both feed tag and origin (R4). -/
abbrev KeysDistinct (s : State) : Prop :=
  ∀ f g : FeedNo, f ≠ g → (s.feed f).state ≠ .off → (s.feed g).state ≠ .off →
    ¬((s.feed f).cfg.tag = (s.feed g).cfg.tag ∧ (s.feed f).cfg.origin = (s.feed g).cfg.origin)

/-! ### Staging memory and staging rings -/

/-- The blocks of a feed's unplaced work: its open contexts, the frames in its ring and the frames on
their way there (R46). -/
def unplacedBlocks (f : FeedNo) (s : State) : Nat :=
  ((s.contextsOf f).map (fun x => x.blocks.length)).sum +
    ((s.ring f).map (fun x => x.frame.blocks)).sum +
    ((s.handedFrames.filter (fun h => h.feed == f)).map (fun h => h.frame.blocks)).sum

/-- The reduction entries with their output blocks granted: the lanes of the running step (R108). -/
def runningLanes (s : State) : List Reduction := s.bu.step.toList.flatMap (·.lanes)

/-- The reduction entries that hold a placed frame: queued or running (R115). -/
def heldReductions (s : State) : List Reduction := s.bu.queue ++ runningLanes s

/-- The output blocks held: by running lanes, by BROWSE writes, and by those that wait for a last piece
(R109, R110, R124). -/
def outputBlocksHeld (s : State) : Nat :=
  ((runningLanes s).map (fun x => (x.outSize + 65535) / 65536)).sum +
    (s.sw.queue.map (fun e => match e.data with | .reduced _ _ n => n | _ => 0)).sum +
    (s.sw.late.map (fun x => match x.2 with | .blocks n => n | _ => 0)).sum

/-- A feed's staging ring (R57): in strictly increasing index order, at most D entries; every index at
or above the next index of the clip, below 2^32 and the one that R59 gives the entry's stamp; a VOID
frame has no blocks. A feed outside RECORDING and a feed whose clip has no origin have an empty ring, and a
clip without origin has placed no index (R58). -/
abbrev RingSound (f : FeedNo) (s : State) : Prop :=
  (s.ring f).Pairwise (fun x y => x.index < y.index) ∧ (s.ring f).length ≤ (s.feed f).cfg.depth ∧
  (∀ x ∈ s.ring f, x.index < 2 ^ 32 ∧ (x.frame.kind = .void → x.frame.blocks = 0)) ∧
  (s.ring f ≠ [] → ∃ cu ∈ recordingClip f s, ∃ o ∈ cu.2.origin, ∀ x ∈ s.ring f,
    cu.2.next ≤ x.index ∧ indexOf (s.feed f).cfg.period o.1 x.frame.stamp = some x.index) ∧
  ∀ cu ∈ recordingClip f s, cu.2.origin = none → cu.2.next = 0

/-- A feed's configuration and pending set are in range and it has a pending set only in RECORDING (R3,
R6); outside RECORDING it has no unplaced work (R12, R53, R57); its holding is the blocks of that work,
within its quota (R45, R46). -/
abbrev UnplacedWorkSound (f : FeedNo) (s : State) : Prop :=
  (s.feed f).cfg.valid = true ∧ (∀ v ∈ (s.feed f).pending, v.valid = true) ∧
  ((s.feed f).state ≠ .recording → (s.feed f).pending = none ∧ s.contextsOf f = [] ∧
    (∀ h ∈ s.handedFrames, h.feed ≠ f) ∧ ∀ u ∈ s.handedUnits, u.feed ≠ f) ∧
  s.holding f = unplacedBlocks f s ∧ s.holding f ≤ (s.feed f).cfg.quota

/-- Placed frames and reductions (R106, R108, R115): at most 64 entries are queued and two lanes run;
the placed frames have distinct numbers below the next one, a hold each, the reduction hold exactly while
an entry names the frame, and the essence hold only while its write is queued or still leaving the port;
no two entries name one frame, and every entry's frame is held. -/
abbrev PlacedFramesSound (s : State) : Prop :=
  s.bu.queue.length ≤ 64 ∧ (∀ st ∈ s.bu.step, st.lanes.length = 1 ∨ st.lanes.length = 2) ∧
  (s.placed.map (·.id)).Nodup ∧ ((heldReductions s).map (·.frame)).Nodup ∧
  (∀ x ∈ heldReductions s, x.frame ∈ s.placed.map (·.id)) ∧
  ∀ p ∈ s.placed, p.id < s.nextSerial ∧ (p.essenceHold = true ∨ p.reductionHold = true) ∧
    (p.reductionHold = true ↔ p.id ∈ (heldReductions s).map (·.frame)) ∧
    (p.essenceHold = true → (∃ e ∈ s.sw.queue, e.cls = .essence ∧ e.serial = p.id) ∨
      (p.id, LateReturn.essenceHold) ∈ s.sw.late)

/-- The data of a write fits its class (R120). -/
abbrev WriteDataSound (s : State) : Prop :=
  ∀ e ∈ s.sw.queue, e.cls =
    (match e.data with | .frame _ => .essence | .reduced _ _ _ => .browse | .record _ => .index)

/-- Staging memory (R46, R142): occupancy is the sum of what the feeds hold, the placed frames hold and
the output blocks, and never above the pool's 65,536 blocks. -/
abbrev OccupancySound (s : State) : Prop :=
  s.smc.occupancy = ((List.finRange 32).map s.holding).sum + (s.placed.map (·.blocks)).sum +
    outputBlocksHeld s ∧
  s.smc.occupancy ≤ 65536

/-- Staging rings, unplaced work, placed frames and staging memory agree with one another. -/
abbrev StagingSound (s : State) : Prop :=
  (∀ f : FeedNo, RingSound f s ∧ UnplacedWorkSound f s) ∧ (∀ h ∈ s.handedFrames, h.frame.kind = .void →
    h.frame.blocks = 0) ∧ PlacedFramesSound s ∧ WriteDataSound s ∧ OccupancySound s

end Sys2Proof.Machine
end

