-- ==== Sys2Proof/Certificates/Slice0/Obligations.lean ====
section
/-! DEFINITION. The statements about the OC-632, for the provers. Each says its rule in its docstring. -/

open Sys2Proof Sys2Proof.Machine

/-! ### Steps and resets -/

/-- A step takes the command at the front of the queue and executes it on the rest. -/
def Obligations.StepRunsTheFrontCommand : Prop :=
  ∀ (c : Instr) (s : State), step { s with pending := c :: s.pending } = exec c s

/-- Power-on reset gives every block the value its chapter states (R1, R19, R36, R56, R81, R101, R118, R141,
R147, R155, R170) and keeps the levels of the storage lines (R137, R138); that the contribution carrier's
level and the commands that wait stand too is the model's choice (assumption log 5). -/
def Obligations.PowerOnResetSetsEveryBlock : Prop :=
  ∀ s : State, ∃ t : State, exec .powerOnReset s = .next t ∧
    t.wall = 0 ∧ t.resetLine = false ∧
    (∀ f : FeedNo, t.feed f =
      { cfg :=
          { tag := 0, origin := 0, unitSize := 8192, period := 48000, depth := 16, quota := 1024,
            hold := 40, asmTimeout := 100, clipLimit := none, atLimit := .stop,
            staged := ⟨.off, 1, 1, 250, 25⟩, browseUnits := 16, cost := .a,
            startLabel := ⟨0, 0, 0, 0⟩, handleNext := 0, handleCeiling := 0, watchMode := .off,
            floor := 0, ceiling := 0, lostSweeps := 3, pacing := 2, autoResume := false }
        state := .off, clip := none, arrival := 0, starved := 0, throttled := false,
        pending := none, counters := ⟨0, 0, 0, 0, 0, 0, 0, 0, 0, 0, 0, 0⟩ }) ∧
    (∀ f : FeedNo, t.contextsOf f = [] ∧ t.ring f = [] ∧ t.holding f = 0 ∧ t.flagsOf f = 0 ∧
      t.watchEntry f = ⟨0, .noVerdict, none⟩) ∧
    (∀ c : ClipNo, t.clip c = Clip.freeRecord) ∧
    t.port = ⟨0, 0, 0, 0, 0, 0, 0⟩ ∧ t.handedUnits = [] ∧ t.handedFrames = [] ∧ t.placed = [] ∧
    t.smc.level = 2 ∧ t.smc.occupancy = 0 ∧ t.smc.pressure = false ∧ t.smc.raises = 0 ∧
    t.bu.queue = [] ∧ t.bu.step = none ∧ t.bu.durA = 40 ∧ t.bu.durB = 96 ∧
    t.bu.counters = ⟨0, 0, 0, 0, 0, 0, 0⟩ ∧
    t.sw.settings = ⟨none, 0, 50, 100, ⟨.wait, .wait, .shed⟩, ⟨7, 3, 0⟩⟩ ∧ t.sw.queue = [] ∧
    t.sw.lastUsed = 255 ∧ t.sw.retired = [] ∧ t.sw.paused = ⟨false, false, false⟩ ∧
    t.sw.records = ⟨0, 0, 0⟩ ∧
    t.sw.counters = ⟨⟨0, 0, 0, 0, 0, 0, 0, 0⟩, ⟨0, 0, 0, 0, 0, 0, 0, 0⟩, ⟨0, 0, 0, 0, 0, 0, 0, 0⟩⟩ ∧
    t.sw.stray = 0 ∧ t.sw.readies = 0 ∧ t.sw.foreign = 0 ∧
    t.fw.sequence = [] ∧ t.fw.period = 0 ∧ t.fw.sweep = none ∧ t.fw.sweeps = 0 ∧
    t.mu.origins = [] ∧ t.mu.address = 0 ∧ t.mu.requests = [] ∧ t.mu.waiting = none ∧ t.mu.tx = [] ∧
    t.mu.devFlags = 0 ∧ t.mu.refusedOrigin = 0 ∧ t.mu.malformedRequests = 0 ∧
    t.mu.requestsDropped = 0 ∧ t.mu.noticesUnsent = 0 ∧
    t.contribCarrier = s.contribCarrier ∧ t.storCarrier = s.storCarrier ∧ t.holdLine = s.holdLine ∧
    t.pending = s.pending

/-- The lines gate the ports. Assertion of the reset line holds the wall counter at 0, and while it is
asserted no frame is received and none is sent (R1, R36, R170); that the assertion changes nothing but the
line and the wall counter, and that until its release every other command changes nothing but, where it is
one of a line, the level of that line, is the model's choice (assumption log 8). Loss and return of carrier on the contribution port change
no state but the line, and without carrier no frame is received and none is sent (R36, R163, R170). -/
def Obligations.ResetLineAndCarrierGateThePart : Prop :=
  ∀ s : State,
    exec .resetLineAsserted s = .next { s with resetLine := true, wall := 0 } ∧
    exec .contributionCarrierLoss s = .next { s with contribCarrier := false } ∧
    exec .contributionCarrierReturn s = .next { s with contribCarrier := true } ∧
    (s.contribCarrier = false →
      (∀ fr : EthFrame, exec (.contributionFrameReceived fr) s = .next s) ∧
      exec .transmitFrameSent s = .next s) ∧
    (s.resetLine = true → ∀ c : Instr,
      c ∉ [.powerOnReset, .resetLineAsserted, .contributionCarrierLoss, .contributionCarrierReturn,
        .linkLoss, .carrierReturn, .storageHoldAsserted, .storageHoldReleased] →
      exec c s = .next s) ∧
    (s.resetLine = true →
      exec .linkLoss s = .next { s with storCarrier := false } ∧
      exec .carrierReturn s = .next { s with storCarrier := true } ∧
      exec .storageHoldAsserted s = .next { s with holdLine := true } ∧
      exec .storageHoldReleased s = .next { s with holdLine := false })

/-- Once the DONE of a RESET DEVICE is in the transmit queue the reset takes effect: every block at its
power-on values, every counter at 0, but for the origin list, contribution address, transmit queue, storage
settings, device settings and last used ID, which are kept; the retired IDs are those retired before and
those of the window, each taken as retired at wall time 0 (R167, R141, R170). The levels of the storage
lines are kept (R137, R138); that the level of the contribution carrier and the waiting commands are kept
too is the model's choice (assumption log 5). -/
def Obligations.ResetTakesEffectKeepsOnlyTheSettings : Prop :=
  ∀ s : State, s.resetLine = false → s.mu.resetDue = true →
    ∃ t : State, exec .resetTakesEffect s = .next t ∧
      t.wall = 0 ∧ t.feeds = State.reset.feeds ∧ t.clips = State.reset.clips ∧
      t.port = State.reset.port ∧ t.contexts = State.reset.contexts ∧ t.rings = State.reset.rings ∧
      t.handedUnits = [] ∧ t.handedFrames = [] ∧ t.placed = [] ∧ t.fw = State.reset.fw ∧
      t.smc = { State.reset.smc with level := s.smc.level } ∧
      t.bu.queue = [] ∧ t.bu.step = none ∧ t.bu.durA = s.bu.durA ∧ t.bu.durB = s.bu.durB ∧
      t.bu.counters = BrowseCounters.zero ∧
      t.sw.settings = s.sw.settings ∧ t.sw.lastUsed = s.sw.lastUsed ∧ t.sw.queue = [] ∧
      t.sw.portQueue = [] ∧ t.sw.late = [] ∧ t.sw.paused = ⟨false, false, false⟩ ∧
      t.sw.records = ⟨0, 0, 0⟩ ∧ t.sw.counters = State.reset.sw.counters ∧ t.sw.stray = 0 ∧
      t.sw.readies = 0 ∧ t.sw.foreign = 0 ∧
      (∀ x : RetiredId, x ∈ t.sw.retired ↔
        (∃ y ∈ s.sw.retired, x = ⟨y.id, 0, y.timeout⟩) ∨
          ∃ id ∈ windowIds s, x = ⟨id, 0, s.sw.settings.ackTimeout⟩) ∧
      t.mu.origins = s.mu.origins ∧ t.mu.address = s.mu.address ∧ t.mu.tx = s.mu.tx ∧
      t.mu.requests = [] ∧ t.mu.waiting = none ∧ t.mu.resetDue = false ∧ t.mu.devFlags = 0 ∧
      t.mu.feedFlags = State.reset.mu.feedFlags ∧ t.mu.refusedOrigin = 0 ∧
      t.mu.malformedRequests = 0 ∧ t.mu.requestsDropped = 0 ∧ t.mu.noticesUnsent = 0 ∧
      t.contribCarrier = s.contribCarrier ∧ t.storCarrier = s.storCarrier ∧ t.holdLine = s.holdLine ∧
      t.resetLine = false ∧ t.pending = s.pending

/-- What a command leaves as it was, over all commands. The wall counter changes only by the commands of
resets (R1) and each line level only by the commands of that line; that no reset changes a carrier, the
hold line or the waiting commands is the model's choice (assumption log 5), and so is that
RESET_LINE_ASSERTED changes nothing here but the line and the wall counter (log 8). The origin list and
the address change only by SET ORIGINS (R156), the storage settings by SET STORAGE (R119), level and
durations by SET DEVICE (R160), the watch sequence and period by SET WATCH (R148), and a feed's
configuration but for its staged fields and handle next by SET FEED (R3), beside the resets; the port
counters only by received frames, GET COUNTERS and resets (R34). -/
def Obligations.EveryCommandLeavesWhatIsNotItsOwn : Prop :=
  ∀ (c : Instr) (s t : State), exec c s = .next t →
    t.pending = s.pending ∧
    (c ∉ [.powerOnReset, .resetLineAsserted, .resetTakesEffect] → t.wall = s.wall) ∧
    (c ∉ [.powerOnReset, .resetLineAsserted] → t.resetLine = s.resetLine) ∧
    (c ∉ [.contributionCarrierLoss, .contributionCarrierReturn] →
      t.contribCarrier = s.contribCarrier) ∧
    (c ∉ [.linkLoss, .carrierReturn] → t.storCarrier = s.storCarrier) ∧
    (c ∉ [.storageHoldAsserted, .storageHoldReleased] → t.holdLine = s.holdLine) ∧
    (c ∉ [.powerOnReset, .setOrigins] →
      t.mu.origins = s.mu.origins ∧ t.mu.address = s.mu.address) ∧
    (c ∉ [.powerOnReset, .setStorage] → t.sw.settings = s.sw.settings) ∧
    (c ∉ [.powerOnReset, .setDevice] →
      t.smc.level = s.smc.level ∧ t.bu.durA = s.bu.durA ∧ t.bu.durB = s.bu.durB) ∧
    (c ∉ [.powerOnReset, .resetTakesEffect, .setWatch] →
      t.fw.sequence = s.fw.sequence ∧ t.fw.period = s.fw.period) ∧
    (c ∉ [.powerOnReset, .resetTakesEffect, .setFeed] → ∀ f : FeedNo,
      (t.feed f).cfg = { (s.feed f).cfg with
        staged := (t.feed f).cfg.staged, handleNext := (t.feed f).cfg.handleNext }) ∧
    ((∀ fr : EthFrame, c ≠ .contributionFrameReceived fr) →
      c ∉ [.powerOnReset, .resetTakesEffect, .getCounters] → t.port = s.port)

/-! ### The contribution port and recognition -/

/-- Each received frame increases exactly one of the counters of section 2.8, by one, and leaves the others
of them: the seven of the port and two of each feed; a counter at its largest value stays there (R34). -/
def Obligations.EveryReceivedFrameIsCountedOnce : Prop :=
  ∀ (fr : EthFrame) (s : State), Receiving s →
    ∃ t : State, exec (.contributionFrameReceived fr) s = .next t ∧
      ∃ i, i < 71 ∧ receiveCounters t = (receiveCounters s).modify i bump

/-- A frame that the receive path discards before a feed's state decides is counted and changes nothing
else. One without a unit to check is counted at the port: a damaged frame, a frame of another type (read past
one VLAN tag), and a truncated unit (R20, R21, R22, R171). A unit that fails the check of R172 is charged as
a bad check to the port where its class is MGMT or no entry outside OFF holds its tag and origin, and to the
one feed that does otherwise, whatever other class it names (R24). Of the units that pass the check, one of
an unknown class, even under a feed's key, and a MEDIA or VOID unit that no entry outside OFF matches are
counted at the port (R23, R26). That a key has one holder is R4. -/
def Obligations.FramesWithoutAUnitAreOnlyCounted : Prop :=
  ∀ (fr : EthFrame) (s : State), Receiving s →
    let tagged := field 12 2 fr.bytes = 0x8100
    let type := field (if tagged then 16 else 12) 2 fr.bytes
    let body := fr.bytes.drop (if tagged then 18 else 14)
    if fr.fcsGood = false ∨ 9216 < fr.bytes.length + 4 then
      exec (.contributionFrameReceived fr) s =
        .next { s with port := { s.port with damaged := bump s.port.damaged } }
    else if type ≠ 0x88D7 then
      exec (.contributionFrameReceived fr) s =
        .next { s with port := { s.port with foreign := bump s.port.foreign } }
    else if body.length < 18 ∨ body.length < 18 + field 12 2 body then
      exec (.contributionFrameReceived fr) s =
        .next { s with port := { s.port with truncated := bump s.port.truncated } }
    else
      let good := crc32 (body.take 14 ++ (body.drop 18).take (field 12 2 body)) =
        BitVec.ofNat 32 (field 14 4 body)
      let cls := field 0 1 body
      let holds := fun f : FeedNo => (s.feed f).state ≠ .off ∧
        (s.feed f).cfg.tag.toNat = field 2 2 body ∧ (s.feed f).cfg.origin.toNat = field 6 6 fr.bytes
      (¬good → (cls = 3 ∨ ∀ f : FeedNo, ¬holds f) →
        exec (.contributionFrameReceived fr) s =
          .next { s with port := { s.port with badCheck := bump s.port.badCheck } }) ∧
      (¬good → cls ≠ 3 → KeysDistinct s → ∀ f : FeedNo, holds f →
        exec (.contributionFrameReceived fr) s =
          .next (modFeed f (fun e =>
            { e with counters := { e.counters with badCheck := bump e.counters.badCheck } }) s)) ∧
      (good → cls ≠ 1 → cls ≠ 2 → cls ≠ 3 →
        exec (.contributionFrameReceived fr) s =
          .next { s with port := { s.port with unknownClass := bump s.port.unknownClass } }) ∧
      (good → (cls = 1 ∨ cls = 2) → (∀ f : FeedNo, ¬holds f) →
        exec (.contributionFrameReceived fr) s =
          .next { s with port := { s.port with unmatched := bump s.port.unmatched } })

/-- A recognised unit is counted and its stated length added to the arrival byte count; then its feed's
state and throttled flag decide (R27): a unit of an IDLE or STALLED feed is discarded as not recording,
a unit of a throttled RECORDING or LOST feed as throttled, and a VOID unit of a LOST feed as not
recording; a MEDIA unit of a RECORDING feed goes to the FA with its stamp, number, flags, length, payload
and arrival time, and a VOID unit to the PE as a frame of kind VOID with mark clear, size 0, no blocks
and this commit time. Nothing else changes (R28, R29, R30, R31, R32). -/
def Obligations.RecognisedUnitsGoByStateAndThrottle : Prop :=
  ∀ (fr : EthFrame) (src : Addr) (u : UnitView) (f : FeedNo) (s : State), Recognised fr src u f s →
    let counted := modFeed f (fun e =>
      { e with
        arrival := satAdd e.arrival u.length
        counters := { e.counters with unitsReceived := bump e.counters.unitsReceived } }) s
    let notRecording := modFeed f (fun e =>
      { e with counters := { e.counters with notRecording := bump e.counters.notRecording } }) counted
    let asThrottled := modFeed f (fun e =>
      { e with counters := { e.counters with throttled := bump e.counters.throttled } }) counted
    let active := (s.feed f).state = .recording ∨ (s.feed f).state = .lost
    ((s.feed f).state = .idle ∨ (s.feed f).state = .stalled →
      exec (.contributionFrameReceived fr) s = .next notRecording) ∧
    (active → (s.feed f).throttled = true →
      exec (.contributionFrameReceived fr) s = .next asThrottled) ∧
    ((s.feed f).state = .lost → (s.feed f).throttled = false → u.cls = 2 →
      exec (.contributionFrameReceived fr) s = .next notRecording) ∧
    ((s.feed f).state = .recording → (s.feed f).throttled = false → u.cls = 1 →
      exec (.contributionFrameReceived fr) s = .next { counted with
        handedUnits := s.handedUnits ++
          [⟨f, u.stamp, u.number, u.last, u.mark, u.length, u.payload, s.wall⟩] }) ∧
    ((s.feed f).state = .recording → (s.feed f).throttled = false → u.cls = 2 →
      exec (.contributionFrameReceived fr) s = .next { counted with
        handedFrames := s.handedFrames ++
          [⟨f, { stamp := u.stamp, kind := .void, mark := false, size := 0, blocks := 0, data := [],
                 commit := s.wall }⟩] })

/-- The MEDIA unit that decides the way out of LOST: with auto-resume on and an opening possible, the
feed records again on the lowest-numbered FREE record and the unit goes on to the FA; otherwise the feed
goes to IDLE and the unit is not recording. Either way the starved count is 0 (R16, R30). -/
def Obligations.MediaUnitDecidesTheWayOutOfLost : Prop :=
  ∀ (fr : EthFrame) (src : Addr) (u : UnitView) (f : FeedNo) (s : State), Recognised fr src u f s →
    (s.feed f).state = .lost → (s.feed f).throttled = false → u.cls = 1 →
    ∃ t : State, exec (.contributionFrameReceived fr) s = .next t ∧ (t.feed f).starved = 0 ∧
      OtherFeedsKept f s t ∧
      t = { s with feeds := t.feeds, clips := t.clips, handedUnits := t.handedUnits, mu := t.mu } ∧
      match (if (s.feed f).cfg.autoResume then openable f s else none) with
      | some c =>
        (t.feed f).state = .recording ∧ (t.feed f).clip = some c ∧ (t.clip c).state = .opened ∧
          (t.clip c).feed = f ∧ (t.clip c).working = (s.feed f).cfg.staged ∧
          (∀ d : ClipNo, d ≠ c → t.clip d = s.clip d) ∧
          t.handedUnits = s.handedUnits ++
            [⟨f, u.stamp, u.number, u.last, u.mark, u.length, u.payload, s.wall⟩]
      | none =>
        (t.feed f).state = .idle ∧ t.handedUnits = s.handedUnits ∧ t.clips = s.clips ∧
          (t.feed f).counters.notRecording = bump (s.feed f).counters.notRecording

/-- A MGMT unit that passes the check counts as a management unit and is tested in order: origin, body,
room; it joins the request queue or is counted in the first failing test's counter (R25, R157). -/
def Obligations.ManagementUnitsPassTheThreeTests : Prop :=
  ∀ (fr : EthFrame) (src : Addr) (u : UnitView) (s : State), Receiving s →
    classify fr = .unit src u → u.passes = true → u.cls = 3 →
    let counted := { s with port := { s.port with management := bump s.port.management } }
    exec (.contributionFrameReceived fr) s = .next
      (if s.mu.origins ≠ [] ∧ src ∉ s.mu.origins then
        { counted with mu := { s.mu with refusedOrigin := bump s.mu.refusedOrigin } }
      else if u.payload.length < 4 then
        { counted with mu := { s.mu with malformedRequests := bump s.mu.malformedRequests } }
      else if 8 ≤ s.mu.requests.length then
        { counted with mu := { s.mu with requestsDropped := bump s.mu.requestsDropped } }
      else
        { counted with mu := { s.mu with
            requests := s.mu.requests ++
              [⟨src, BitVec.ofNat 16 (field 0 2 u.payload), BitVec.ofNat 16 (field 2 2 u.payload),
                u.payload.drop 4⟩] } })

/-- The oldest frame leaves the transmit queue as its last byte is sent, and a waiting response joins the
freed place and takes its request out of the request queue (R163, R158; that the request has filled its
place until then is the model's choice, assumption log 34). A notice formed at a full queue is not sent and
counts once, unless it meets that join at this wall time and is taken first: then it has the place, and the
response waits on with its request. Which of the two is first, R163 and R168 leave to the order of events
(log 30). Where the response is first and is the DONE of a RESET DEVICE, the reset is due, and the notice is
neither formed nor counted, which is the model's reading (log 9). With no step due an idle step is one tick (log 1), after which no notice meets the join. -/
def Obligations.SentFrameLetsAWaitingResponseJoin : Prop :=
  ∀ s : State, s.resetLine = false →
    (∀ (x : TxFrame) (xs : List TxFrame), s.contribCarrier = true → s.mu.tx = x :: xs →
      s.mu.tx.length ≤ 16 →
      exec .transmitFrameSent s = .next
        { s with mu :=
          match s.mu.waiting with
          | none => { s.mu with tx := xs, lastSent := x.bytes, sent := s.mu.sent + 1, joined := none }
          | some w =>
            { s.mu with
              tx := xs ++ [w.frame], lastSent := x.bytes, sent := s.mu.sent + 1, waiting := none,
              requests := s.mu.requests.tail, resetDue := s.mu.resetDue || w.reset,
              joined := s.mu.requests.head?.map (fun r => ⟨w, r⟩) } }) ∧
    (∀ (dst : Addr) (more : List Addr), s.holdLine = false → s.mu.origins = dst :: more →
      s.mu.tx.length = 16 →
      (s.mu.joined = none → s.mu.resetDue = false →
        ∃ t : State, exec .storageHoldAsserted s = .next t ∧ t.mu.tx = s.mu.tx ∧
          t.mu.noticesUnsent = bump s.mu.noticesUnsent ∧ t.mu.waiting = s.mu.waiting ∧
          t.mu.requests = s.mu.requests) ∧
      (∀ j : Joined, s.mu.joined = some j → s.mu.waiting = none → s.mu.requests.length < 8 →
        s.mu.resetDue = j.response.reset →
        ∃ t : State, exec .storageHoldAsserted s = .next t ∧
          if Config.noticeFirst s.mu.sent then
            (∃ n : TxFrame, n.dst = dst ∧ t.mu.tx = s.mu.tx.dropLast ++ [n]) ∧
              t.mu.noticesUnsent = s.mu.noticesUnsent ∧ t.mu.waiting = some j.response ∧
              t.mu.requests = j.request :: s.mu.requests ∧ t.mu.resetDue = false
          else
            t.mu.tx = s.mu.tx ∧ t.mu.waiting = none ∧ t.mu.requests = s.mu.requests ∧
              t.mu.resetDue = s.mu.resetDue ∧
              t.mu.noticesUnsent =
                (if s.mu.resetDue then s.mu.noticesUnsent else bump s.mu.noticesUnsent))) ∧
    (s.pending = [] → dueCommand s = none →
      step s = .next { s with wall := s.wall + 1, mu := { s.mu with joined := none } })

/-- A frame that the part sends is, to a receive classifier, a MGMT unit that passes the check and
carries the body and the stamp it was formed with (R163, R171, R172). -/
def Obligations.SentFramesPassTheirOwnCheck : Prop :=
  ∀ (x : TxFrame), x.body.length ≤ 9180 →
    ∃ u : UnitView, classify ⟨true, x.bytes⟩ = .unit x.src u ∧ u.passes = true ∧ u.cls = 3 ∧
      u.payload = x.body ∧ u.stamp = x.stamp ∧ u.last = false ∧ u.mark = false ∧ u.tag = 0 ∧
      u.number = 0

/-! ### Frame assembly -/

/-- A unit whose number is already in its context's coverage is discarded and counted as a duplicate,
and the context is unchanged, whatever its last flag and length say (R42). -/
def Obligations.CoveredUnitIsADuplicate : Prop :=
  ∀ (f : FeedNo) (u : HandedUnit) (x : Context) (s : State), Taking f u s →
    (if u.last then 1 ≤ u.length ∧ u.length ≤ (s.feed f).cfg.unitSize
      else u.length = (s.feed f).cfg.unitSize) →
    (s.contextsOf f).find? (fun y => y.stamp == u.stamp) = some x →
    u.number ∈ x.units.map Prod.fst →
    exec (.faTakeUnit f) s = .next
      (modFeed f (fun e =>
          { e with counters := { e.counters with duplicate := bump e.counters.duplicate } })
        { s with handedUnits := s.handedUnits.erase u })

/-- A frame of one unit, unit 0 flagged as last, is committed at its own arrival: with room for its
block it becomes a MEDIA frame of that size and this commit time, its block joins the feed's holding,
and the contexts stand as they stood (R40, R44, R45, R46, R48, R49). Of the other units that are no
duplicate: one of a wrong length counts as malformed and touches no context (R39). In an open context, a unit
numbered above the last unit counts as malformed and the context stands; a last unit that contradicts the
context abandons the frame, which counts once as malformed and returns its blocks (R43, R52); a unit whose
blocks are refused counts as no room and the context stands (R45); any other is recorded, and the one that
completes coverage commits the frame: its size is the last number times U plus the last length, its data the
units' bytes in order of number (R48, R49). Without a context, one opens at the end of the list; with four
open the first is abandoned before, counts as incomplete and returns its blocks; the new one stays with empty
coverage where the unit finds no room (R40, R41, R45). -/
def Obligations.OneUnitFrameCommitsAtItsArrival : Prop :=
  ∀ (f : FeedNo) (u : HandedUnit) (s : State), Taking f u s →
    let U := (s.feed f).cfg.unitSize
    let taken := { s with handedUnits := s.handedUnits.erase u }
    let malformed := countFeed f (fun k => { k with malformed := bump k.malformed }) taken
    let low := u.number * U / 65536
    let high := (u.number * U + u.length - 1) / 65536
    let want := fun held : List Nat =>
      (if low = high then [low] else [low, high]).filter (fun b => !held.contains b)
    let others := (s.contextsOf f).filter (fun y => y.stamp != u.stamp)
    let fits := if u.last then 1 ≤ u.length ∧ u.length ≤ U else u.length = U
    (¬fits → exec (.faTakeUnit f) s = .next malformed) ∧
    (fits → U ≤ 8192 → ∀ x : Context,
      (s.contextsOf f).find? (fun y => y.stamp == u.stamp) = some x → u.number ∉ x.units.map Prod.fst →
      let n := (want x.blocks).length
      (u.last = false → (∃ m ∈ x.last, m.1 < u.number) → exec (.faTakeUnit f) s = .next malformed) ∧
      (u.last = true →
        (∃ m ∈ x.last, m.1 ≠ u.number) ∨ (x.last = none ∧ ∃ k ∈ x.units, u.number < k.1) →
        ∃ t : State, exec (.faTakeUnit f) s = .next t ∧ t.contextsOf f = others ∧
          t.holding f = s.holding f - x.blocks.length ∧
          t.smc.occupancy = s.smc.occupancy - x.blocks.length ∧ OtherFeedsKept f s t ∧
          t = { malformed with contexts := t.contexts, smc := t.smc, mu := t.mu }) ∧
      ((if u.last then x.last = none ∧ ∀ k ∈ x.units, k.1 < u.number
          else ∀ m ∈ x.last, u.number < m.1) →
        (n ≠ 0 → ¬RoomFor f n 0 s → exec (.faTakeUnit f) s = .next
          (countFeed f (fun k => { k with noRoom := bump k.noRoom }) taken)) ∧
        (n = 0 ∨ RoomFor f n 0 s →
          ∃ (t : State) (y : Context), exec (.faTakeUnit f) s = .next t ∧
            y.units.Perm ((u.number, u.payload) :: x.units) ∧
            (x.units.Pairwise (·.1 < ·.1) → y.units.Pairwise (·.1 < ·.1)) ∧
            y = { x with
              units := y.units, last := if u.last then some (u.number, u.length) else x.last,
              mark := x.mark || u.mark, blocks := x.blocks ++ want x.blocks } ∧
            t.holding f = s.holding f + n ∧ t.smc.occupancy = s.smc.occupancy + n ∧
            OtherFeedsKept f s t ∧
            t = { taken with
              handedFrames := t.handedFrames, contexts := t.contexts, smc := t.smc, mu := t.mu } ∧
            (∀ m ∈ y.last, (∀ k ≤ m.1, k ∈ y.units.map Prod.fst) →
              t.contextsOf f = others ∧
              t.handedFrames = s.handedFrames ++
                [⟨f, { stamp := x.stamp, kind := .media, mark := y.mark, size := m.1 * U + m.2,
                       blocks := y.blocks.length, data := y.units.flatMap Prod.snd,
                       commit := s.wall }⟩]) ∧
            ((∀ m ∈ y.last, ∃ k ≤ m.1, k ∉ y.units.map Prod.fst) →
              t.contextsOf f = (s.contextsOf f).map (fun z => if z.stamp = u.stamp then y else z) ∧
              t.handedFrames = s.handedFrames)))) ∧
    (fits → U ≤ 8192 → (∀ y ∈ s.contextsOf f, y.stamp ≠ u.stamp) →
      let n := (want []).length
      let kept := if 4 ≤ (s.contextsOf f).length then (s.contextsOf f).tail else s.contextsOf f
      let back := if 4 ≤ (s.contextsOf f).length then
        ((s.contextsOf f).take 1).foldr (fun y _ => y.blocks.length) 0 else 0
      ∃ t : State, exec (.faTakeUnit f) s = .next t ∧ OtherFeedsKept f s t ∧
        t.feed f = { s.feed f with counters := { (s.feed f).counters with
          incomplete := if 4 ≤ (s.contextsOf f).length then bump (s.feed f).counters.incomplete
            else (s.feed f).counters.incomplete
          noRoom := if RoomFor f n back s then (s.feed f).counters.noRoom
            else bump (s.feed f).counters.noRoom } } ∧
        t = { taken with
          feeds := t.feeds, handedFrames := t.handedFrames, contexts := t.contexts, smc := t.smc,
          mu := t.mu } ∧
        (¬RoomFor f n back s →
          t.contextsOf f = kept ++ [⟨u.stamp, u.arrival, [], none, false, []⟩] ∧
          t.handedFrames = s.handedFrames ∧ t.holding f = s.holding f - back ∧
          t.smc.occupancy = s.smc.occupancy - back) ∧
        (RoomFor f n back s →
          t.holding f = s.holding f - back + n ∧ t.smc.occupancy = s.smc.occupancy - back + n ∧
          if u.last ∧ u.number = 0 then
            t.contextsOf f = kept ∧
            t.handedFrames = s.handedFrames ++
              [⟨f, { stamp := u.stamp, kind := .media, mark := u.mark, size := u.length, blocks := 1,
                     data := u.payload, commit := s.wall }⟩]
          else
            t.contextsOf f = kept ++
              [⟨u.stamp, u.arrival, [(u.number, u.payload)],
                if u.last then some (u.number, u.length) else none, u.mark, want []⟩] ∧
            t.handedFrames = s.handedFrames)) ∧
    (u.number = 0 → u.last = true → 1 ≤ u.length → u.length ≤ U → U ≤ 8192 →
      (∀ x ∈ s.contextsOf f, x.stamp ≠ u.stamp) → (s.contextsOf f).length < 4 →
      s.holding f + 1 ≤ (s.feed f).cfg.quota → s.smc.occupancy < 65536 →
      ∃ t : State, exec (.faTakeUnit f) s = .next t ∧
        t.handedFrames = s.handedFrames ++
          [⟨f, { stamp := u.stamp, kind := .media, mark := u.mark, size := u.length, blocks := 1,
                 data := u.payload, commit := s.wall }⟩] ∧
        t.handedUnits = s.handedUnits.erase u ∧ t.holding f = s.holding f + 1 ∧
        OtherFeedsKept f s t ∧
        t.smc.occupancy = s.smc.occupancy + 1 ∧
        t = { s with
          handedFrames := t.handedFrames, handedUnits := t.handedUnits, smc := t.smc, mu := t.mu })

/-- At a millisecond step exactly the contexts whose first unit lies the assembly timeout or more in
the past are abandoned; each counts once as incomplete (R51, R52). -/
def Obligations.ExpiredContextsAreAbandoned : Prop :=
  ∀ s : State, s.resetLine = false → s.wall.toNat % 1200 = 0 →
    ∃ t : State, exec .contextExpiry s = .next t ∧
      (∀ f : FeedNo,
        let expired := fun x : Context =>
          decide (1200 * (s.feed f).cfg.asmTimeout ≤ (s.wall - x.first).toNat)
        t.contextsOf f = (s.contextsOf f).filter (fun x => !expired x) ∧
        (t.feed f).counters.incomplete.toNat =
          min ((s.feed f).counters.incomplete.toNat + ((s.contextsOf f).filter expired).length)
            4294967295 ∧
        t.holding f =
          s.holding f - (((s.contextsOf f).filter expired).map (fun x => x.blocks.length)).sum ∧
        t.feed f = { s.feed f with
          counters := { (s.feed f).counters with incomplete := (t.feed f).counters.incomplete } }) ∧
      t = { s with feeds := t.feeds, contexts := t.contexts, smc := t.smc, mu := t.mu }

/-! ### Placement -/

/-- The index of R59: with d the signed stamp difference, a frame is late exactly where d + floor(p/2)
is below 0 or its index would be 2^32 or more, and otherwise the index is floor((d + floor(p/2)) / p);
its jitter d - n * p lies from -floor(p/2) to p - 1 - floor(p/2) (R60). The index decides what becomes of a
frame of either kind (R61, R62). Late, or below N, it is discarded, counts as late and raises LATE_SEEN. At an
index that the ring holds it is discarded and counts as duplicate frame. At a full ring whose head's hold
cannot be cut, since the head is not in hold or the contender is MEDIA and the share full, it is discarded,
counts as overrun and raises OVERRUN_SEEN. A discarded frame returns its blocks, and clip and ring stand. With
a slot free in a ring that stands as R57 says, a frame behind the head, or a new head still in hold, takes its
place in the ring's order and counts as off-grid where its jitter exceeds floor(p/4). -/
def Obligations.PlacementIndexIsTheNearestGridPoint : Prop :=
  (∀ (p : Nat) (o st : Tick), 0 < p →
    let d : Int := (st - o).toInt
    match indexOf p o st with
    | none => d + ((p / 2 : Nat) : Int) < 0 ∨ (2 ^ 32 * p : Int) ≤ d + ((p / 2 : Nat) : Int)
    | some n =>
      n < 2 ^ 32 ∧ (n * p : Int) ≤ d + ((p / 2 : Nat) : Int) ∧
        d + ((p / 2 : Nat) : Int) < ((n + 1) * p : Int) ∧
        -((p / 2 : Nat) : Int) ≤ jitter p o st n ∧
        jitter p o st n ≤ (p : Int) - 1 - ((p / 2 : Nat) : Int)) ∧
  ∀ (f : FeedNo) (k : FrameKind) (c : ClipNo) (u : Cursor) (o w0 : Tick) (fr : Frame) (s : State),
    Admitting f k c u fr s → u.origin = some (o, w0) → Settled s →
    let p := (s.feed f).cfg.period
    let taken := { s with handedFrames := s.handedFrames.erase ⟨f, fr⟩ }
    let discarded := fun (g : FeedCounters → FeedCounters) (flag : BitVec 5) =>
      ∃ t : State, exec (.frameAdmission f k) s = .next t ∧ t.flagsOf f = s.flagsOf f ||| flag ∧
        t.holding f = s.holding f - fr.blocks ∧ t.smc.occupancy = s.smc.occupancy - fr.blocks ∧
        OtherFeedsKept f s t ∧ t = { countFeed f g taken with smc := t.smc, mu := t.mu }
    ((∀ n ∈ indexOf p o fr.stamp, n < u.next) →
      discarded (fun k => { k with late := bump k.late }) 0x04) ∧
    ∀ n, indexOf p o fr.stamp = some n → u.next ≤ n →
      ((∃ x ∈ s.ring f, x.index = n) →
        discarded (fun k => { k with duplicateFrame := bump k.duplicateFrame }) 0) ∧
      ((∀ x ∈ s.ring f, x.index ≠ n) →
        (∀ (e : RingEntry) (es : List RingEntry), s.ring f = e :: es →
          (s.feed f).cfg.depth ≤ (s.ring f).length →
          e.index ≤ u.next ∨
            ((if n < e.index then k else e.frame.kind) = .media ∧ 224 ≤ shareUsed s) →
          discarded (fun k => { k with overrun := bump k.overrun }) 0x02) ∧
        (RingSound f s → (s.ring f).length < (s.feed f).cfg.depth →
          (∃ x ∈ s.ring f, x.index < n) ∨
            (u.next < n ∧ (s.wall - fr.commit).toNat < 1200 * (s.feed f).cfg.hold) →
          ∃ t : State, exec (.frameAdmission f k) s = .next t ∧
            (t.ring f).Perm (⟨n, fr⟩ :: s.ring f) ∧ (t.ring f).Pairwise (·.index < ·.index) ∧
            (t.feed f).counters.offGrid =
              (if p / 4 < (jitter p o fr.stamp n).natAbs then bump (s.feed f).counters.offGrid
                else (s.feed f).counters.offGrid) ∧
            t.feed f = { s.feed f with
              counters := { (s.feed f).counters with offGrid := (t.feed f).counters.offGrid } } ∧
            OtherFeedsKept f s t ∧ t = { taken with feeds := t.feeds, rings := t.rings }))

/-- A MEDIA frame that arrives at an empty ring with index N is placed at once: one essence frame more
in the clip record and its open segment, the cursor one index on, an ESSENCE write of the frame's bytes
at the cursor's essence offset in the write queue, and the frame's blocks out of the feed's holding
(R61, R63, R66, R86). Where it fills its segment to S, the segment closes with its record and its
unanswered writes, the next one opens behind it, and a pending staged set moves into the working values
(R88, R91, R7); with 4,096 records in the store the clip fails instead, its feed goes to IDLE, the frame is
not written and no abort record changes (R92). Where it brings N to the limit, the clip ends LIMIT: with
STOP the feed goes to IDLE; with SPLIT a successor opens whose origin lies L * p later, or, where none can
open, the feed is STALLED (R74, R75, R73). A VOID frame that arrives there is placed as a VOID fill of one
index, with or without room in the share, and no write is queued (R68). The first frame of a clip in OPEN,
whatever its stamp and kind, becomes its origin with its commit time as w0 and is never off-grid: the clip
goes to RECORDING with its CLIP_STATE notice, and the frame is placed at index 0, a VOID frame as a fill, or,
being MEDIA at a full share, stays in the ring at index 0 (R58, R67, R83, R164). -/
def Obligations.MediaFrameAtTheNextIndexIsPlaced : Prop :=
  (∀ (f : FeedNo) (c : ClipNo) (u : Cursor) (g : Segment) (o w0 : Tick) (fr : Frame) (s : State),
    Recording f c u g s → OnlyRing f s → s.ring f = [] → u.origin = some (o, w0) →
    nextFrame f .media s = some ⟨f, fr⟩ → indexOf (s.feed f).cfg.period o fr.stamp = some u.next →
    (s.clip c).working.mode = .off → 0 < (s.feed f).cfg.depth → shareUsed s < 224 →
    s.bu.queue = [] →
    let written := fun (t : State) => ∃ e ∈ t.sw.queue, e.cls = .essence ∧ e.clip = c ∧
      e.segment = g.number ∧ e.handle = (s.clip c).essenceHandle ∧ e.offset = u.offset ∧
      e.length = fr.size ∧ e.data = .frame fr.data ∧ e.attempts = 0
    let staged := (s.feed f).pending.getD (s.feed f).cfg.staged
    let label := ((s.clip c).startLabel + (s.clip c).placed + 1) %
      (86400 * ((1200000 + (s.feed f).cfg.period - 1) / (s.feed f).cfg.period))
    (g.frames + 1 < (s.clip c).working.segLen → u.next + 1 ≠ (limitOf (s.feed f).cfg).1 →
      ∃ t : State, exec (.frameAdmission f .media) s = .next t ∧
        (t.clip c).placed = (s.clip c).placed + 1 ∧ (t.clip c).essence = (s.clip c).essence + 1 ∧
        (t.clip c).repeats = (s.clip c).repeats ∧ (t.clip c).voids = (s.clip c).voids ∧
        (t.clip c).bytes = (s.clip c).bytes + fr.size ∧
        (t.clip c).cursor = some { u with
          next := u.next + 1, lastEssence := some u.next, offset := u.offset + fr.size } ∧
        (t.clip c).openSeg.map (·.frames) = some (g.frames + 1) ∧ written t ∧
        t.ring f = [] ∧ t.holding f = s.holding f - fr.blocks ∧ (t.feed f).state = .recording ∧
        (t.feed f).clip = some c ∧ (∀ d : ClipNo, d ≠ c → t.clip d = s.clip d) ∧
        OtherFeedsKept f s t ∧
        t = { s with
          handedFrames := t.handedFrames, feeds := t.feeds, smc := t.smc, rings := t.rings,
          placed := t.placed, clips := t.clips, sw := t.sw, nextSerial := t.nextSerial }) ∧
    (g.frames + 1 = (s.clip c).working.segLen → u.next + 1 ≠ (limitOf (s.feed f).cfg).1 →
      storeCount s < 4096 → u.next = (s.clip c).placed → u.offset = (s.clip c).bytes →
      ∃ t : State, exec (.frameAdmission f .media) s = .next t ∧ written t ∧
        (t.clip c).state = .recording ∧ (t.clip c).placed = (s.clip c).placed + 1 ∧
        (t.clip c).segsClosed = (s.clip c).segsClosed + 1 ∧
        (t.clip c).cursor.map (·.next) = some (u.next + 1) ∧
        (t.clip c).openSeg = some
          { number := g.number + 1, first := u.next + 1, frames := 0, firstLabel := label,
            offset := u.offset + fr.size, bytes := 0, runs := [], firstPick := (s.clip c).picks,
            picks := 0, holes := [], unanswered := [] } ∧
        (∃ x : ClosedSegment, OneMoreClosed (s.clip c) (t.clip c) x ∧ x.handed = false ∧
          x.record.number = g.number ∧ x.record.first = g.first ∧
          x.record.frames = g.frames + 1 ∧ x.record.bytes = g.bytes + fr.size ∧
          x.record.runs = g.runs ∧ x.record.holes = g.holes ∧ x.record.final = none ∧
          x.unanswered = g.unanswered ++ [s.nextSerial]) ∧
        (t.clip c).working = (s.feed f).pending.getD (s.clip c).working ∧
        (t.feed f).pending = none ∧ (t.feed f).cfg.staged = staged ∧ t.ring f = [] ∧
        (∀ d : ClipNo, d ≠ c → t.clip d = s.clip d) ∧ OtherFeedsKept f s t) ∧
    (g.frames + 1 = (s.clip c).working.segLen → 4096 ≤ storeCount s →
      ∃ t : State, exec (.frameAdmission f .media) s = .next t ∧ (t.clip c).state = .failed ∧
        (t.clip c).endReason = some .failed ∧ (t.clip c).openSeg = none ∧
        (t.clip c).cursor = none ∧ (t.clip c).closed = [] ∧ (t.feed f).state = .idle ∧
        (t.feed f).clip = none ∧ (t.feed f).pending = none ∧ t.ring f = [] ∧ t.contextsOf f = [] ∧
        (∀ e ∈ t.sw.queue, e.clip = c → e.cls = .essence → e.flight.isSome = true) ∧
        t.sw.records = s.sw.records ∧ OtherFeedsKept f s t) ∧
    (g.frames + 1 < (s.clip c).working.segLen → u.next + 1 = (limitOf (s.feed f).cfg).1 →
      storeCount s < 4096 →
      ∃ t : State, exec (.frameAdmission f .media) s = .next t ∧ written t ∧
        (t.clip c).state = .draining ∧ (t.clip c).endReason = some .limit ∧
        (t.clip c).openSeg = none ∧ (t.clip c).cursor = none ∧
        (t.clip c).placed = (s.clip c).placed + 1 ∧
        (t.clip c).segsClosed = (s.clip c).segsClosed + 1 ∧
        (∃ x : ClosedSegment, OneMoreClosed (s.clip c) (t.clip c) x ∧
          x.record.number = g.number ∧ x.record.frames = g.frames + 1 ∧
          x.record.final = some .limit ∧ x.unanswered = g.unanswered ++ [s.nextSerial]) ∧
        (t.feed f).pending = none ∧ (t.feed f).cfg.staged = staged ∧ t.ring f = [] ∧
        OtherFeedsKept f s t ∧
        ((limitOf (s.feed f).cfg).2 = .stop →
          (t.feed f).state = .idle ∧ (t.feed f).clip = none ∧ t.contextsOf f = [] ∧
            ∀ d : ClipNo, d ≠ c → t.clip d = s.clip d) ∧
        ((limitOf (s.feed f).cfg).2 = .split → openable f s = none →
          (t.feed f).state = .stalled ∧ (t.feed f).clip = none ∧ t.contextsOf f = [] ∧
            ∀ d : ClipNo, d ≠ c → t.clip d = s.clip d) ∧
        ((limitOf (s.feed f).cfg).2 = .split → ∀ d : ClipNo, openable f s = some d →
          let later : Tick := BitVec.ofNat 48 ((u.next + 1) * (s.feed f).cfg.period)
          (t.feed f).state = .recording ∧ (t.feed f).clip = some d ∧
            (t.clip d).state = .recording ∧ (t.clip d).feed = f ∧ (t.clip d).placed = 0 ∧
            (t.clip d).origin = some (o + later) ∧ (t.clip d).working = staged ∧
            (t.clip d).startLabel = label ∧
            (t.clip d).essenceHandle = (s.feed f).cfg.handleNext ∧
            (t.clip d).cursor = some
              { origin := some (o + later, w0 + later), next := 0, lastEssence := none, offset := 0,
                acc := staged.bd - staged.bn, picks := 0 } ∧
            t.contextsOf f = s.contextsOf f ∧
            ∀ e : ClipNo, e ≠ c → e ≠ d → t.clip e = s.clip e))) ∧
  (∀ (f : FeedNo) (c : ClipNo) (u : Cursor) (g : Segment) (o w0 : Tick) (fr : Frame) (s : State),
    Recording f c u g s → OnlyRing f s → s.ring f = [] → u.origin = some (o, w0) →
    nextFrame f .void s = some ⟨f, fr⟩ → indexOf (s.feed f).cfg.period o fr.stamp = some u.next →
    (s.clip c).working.mode = .off → 0 < (s.feed f).cfg.depth →
    g.frames + 1 < (s.clip c).working.segLen → g.runs.length < 200 →
    u.next + 1 ≠ (limitOf (s.feed f).cfg).1 →
    ∃ t : State, exec (.frameAdmission f .void) s = .next t ∧
      (t.clip c).placed = (s.clip c).placed + 1 ∧ (t.clip c).voids = (s.clip c).voids + 1 ∧
      (t.clip c).essence = (s.clip c).essence ∧ (t.clip c).repeats = (s.clip c).repeats ∧
      (t.clip c).bytes = (s.clip c).bytes ∧ (t.clip c).cursor = some { u with next := u.next + 1 } ∧
      (t.clip c).openSeg.map (·.frames) = some (g.frames + 1) ∧ t.ring f = [] ∧
      (t.feed f).clip = some c ∧ (∀ d : ClipNo, d ≠ c → t.clip d = s.clip d) ∧
      OtherFeedsKept f s t ∧
      t = { s with
        handedFrames := s.handedFrames.erase ⟨f, fr⟩, feeds := t.feeds, rings := t.rings,
        clips := t.clips }) ∧
  ∀ (f : FeedNo) (k : FrameKind) (c : ClipNo) (u : Cursor) (g : Segment) (fr : Frame) (s : State),
    Admitting f k c u fr s → OnlyRing f s → (s.clip c).state = .opened →
    (s.clip c).openSeg = some g → u.origin = none → u.next = 0 → (s.clip c).working.mode = .off →
    g.frames + 1 < (s.clip c).working.segLen → g.runs.length < 200 →
    (limitOf (s.feed f).cfg).1 ≠ 1 → s.bu.queue = [] →
    let begun := { u with origin := some (fr.stamp, fr.commit) }
    ∃ t : State, exec (.frameAdmission f k) s = .next t ∧
      (t.clip c).state = .recording ∧ (t.clip c).origin = some fr.stamp ∧
      (∀ (dst : Addr) (more : List Addr), s.mu.origins = dst :: more → s.mu.resetDue = false →
        TxRoomFor 1 s → t.mu.tx = s.mu.tx ++
          [⟨dst, s.mu.address, s.wall,
            noticeBody .clipState c.val ClipState.recording.code s.wall⟩]) ∧
      (k = .void → t.ring f = [] ∧ (t.clip c).cursor = some { begun with next := 1 } ∧
        (t.clip c).placed = (s.clip c).placed + 1 ∧ (t.clip c).voids = (s.clip c).voids + 1 ∧
        (t.clip c).essence = (s.clip c).essence ∧ t.sw = s.sw ∧ t.holding f = s.holding f) ∧
      (k = .media → shareUsed s < 224 → t.ring f = [] ∧
        (t.clip c).cursor = some { begun with
          next := 1, lastEssence := some 0, offset := u.offset + fr.size } ∧
        (t.clip c).placed = (s.clip c).placed + 1 ∧ (t.clip c).essence = (s.clip c).essence + 1 ∧
        (t.clip c).voids = (s.clip c).voids ∧ t.holding f = s.holding f - fr.blocks ∧
        ∃ e ∈ t.sw.queue, e.cls = .essence ∧ e.clip = c ∧ e.segment = g.number ∧
          e.handle = (s.clip c).essenceHandle ∧ e.offset = u.offset ∧ e.length = fr.size ∧
          e.data = .frame fr.data ∧ e.attempts = 0) ∧
      (k = .media → 224 ≤ shareUsed s → t.ring f = [⟨0, fr⟩] ∧ (t.clip c).cursor = some begun ∧
        (t.clip c).placed = (s.clip c).placed ∧ t.sw = s.sw ∧ t.holding f = s.holding f) ∧
      (∀ d : ClipNo, d ≠ c → t.clip d = s.clip d) ∧ OtherFeedsKept f s t ∧
      t = { s with
        handedFrames := s.handedFrames.erase ⟨f, fr⟩, smc := t.smc, rings := t.rings,
        placed := t.placed, clips := t.clips, sw := t.sw, mu := t.mu, nextSerial := t.nextSerial }

/-- A hold that expires in front of a gap no larger than F is filled as one run, REPEAT where the clip
has placed an essence frame and VOID otherwise, and the head is placed (R64, R65, R66, R68, R70). A frame that arrives at a full
ring cuts the head's hold where the contender, the lower of the two, can be placed: VOID, or MEDIA with room
in the share. In a ring that stands as R57 says, a gap of at most F is filled, the contender placed, and the
arriving frame counts as off-grid where its jitter calls for it; where the frames left must wait, the ring is
then the old one if the arriving frame was the contender, and otherwise the old one without its head and with
the arriving frame in its place. Beyond F with no successor able to open, the clip ends DISCONTINUITY, the feed
is STALLED, and the arriving frame too counts as not recording (R62, R65, R71, R73); that units and frames
handed on and not yet taken count with the dropped work is the model's reading (assumption log 10). -/
def Obligations.ExpiredHoldFillsAGapWithinTheLimit : Prop :=
  (∀ (f : FeedNo) (c : ClipNo) (u : Cursor) (g : Segment) (n : Nat) (fr : Frame) (s : State),
    Recording f c u g s → OnlyRing f s → s.ring f = [⟨n, fr⟩] → s.wall.toNat % 1200 = 0 →
    u.next < n → 1200 * (s.feed f).cfg.hold ≤ (s.wall - fr.commit).toNat →
    n - u.next ≤ (s.clip c).working.fillLimit → (s.clip c).working.mode = .off →
    g.frames + (n - u.next) + 1 < (s.clip c).working.segLen → g.runs.length + 2 ≤ 200 →
    n + 1 < (limitOf (s.feed f).cfg).1 → (fr.kind = .void ∨ shareUsed s < 224) →
    s.bu.queue = [] →
    ∃ t : State, exec (.reorderHoldExpiry f) s = .next t ∧
      (t.clip c).placed = (s.clip c).placed + (n - u.next) + 1 ∧
      (t.clip c).essence = (s.clip c).essence + (if fr.kind = .media then 1 else 0) ∧
      (t.clip c).repeats =
        (s.clip c).repeats + (if u.lastEssence.isSome then n - u.next else 0) ∧
      (t.clip c).voids =
        (s.clip c).voids + (if u.lastEssence.isSome then 0 else n - u.next) +
          (if fr.kind = .void then 1 else 0) ∧
      (t.clip c).cursor.map (·.next) = some (n + 1) ∧
      (t.clip c).openSeg.map (·.frames) = some (g.frames + (n - u.next) + 1) ∧
      t.ring f = [] ∧ (t.feed f).clip = some c ∧ (∀ d : ClipNo, d ≠ c → t.clip d = s.clip d) ∧
      OtherFeedsKept f s t ∧
      t = { s with
        smc := t.smc, rings := t.rings, placed := t.placed, clips := t.clips, sw := t.sw,
        nextSerial := t.nextSerial }) ∧
  ∀ (f : FeedNo) (k : FrameKind) (c : ClipNo) (u : Cursor) (g : Segment) (o w0 : Tick) (n : Nat)
    (e : RingEntry) (es : List RingEntry) (fr : Frame) (s : State),
    Recording f c u g s → nextFrame f k s = some ⟨f, fr⟩ → OnlyRing f s → u.origin = some (o, w0) →
    indexOf (s.feed f).cfg.period o fr.stamp = some n → s.ring f = e :: es →
    (s.ring f).length = (s.feed f).cfg.depth → u.next < e.index → u.next ≤ n →
    (∀ x ∈ s.ring f, x.index ≠ n) →
    ((if n < e.index then k else e.frame.kind) = .void ∨ shareUsed s < 224) →
    let first := min n e.index
    let gap := first - u.next
    let kind := if n < e.index then k else e.frame.kind
    let off := (s.feed f).cfg.period / 4 < (jitter (s.feed f).cfg.period o fr.stamp n).natAbs
    (RingSound f s → gap ≤ (s.clip c).working.fillLimit → (s.clip c).working.mode = .off →
      s.bu.queue = [] → g.frames + gap + 1 < (s.clip c).working.segLen →
      g.runs.length + 2 ≤ 200 → first + 1 < (limitOf (s.feed f).cfg).1 →
      (∀ x ∈ ⟨n, fr⟩ :: s.ring f, x.index ≠ first →
        first + 1 < x.index ∧ (s.wall - x.frame.commit).toNat < 1200 * (s.feed f).cfg.hold) →
      ∃ t : State, exec (.frameAdmission f k) s = .next t ∧
        (t.clip c).placed = (s.clip c).placed + gap + 1 ∧
        (t.clip c).essence = (s.clip c).essence + (if kind = .media then 1 else 0) ∧
        (t.clip c).repeats = (s.clip c).repeats + (if u.lastEssence.isSome then gap else 0) ∧
        (t.clip c).voids = (s.clip c).voids + (if u.lastEssence.isSome then 0 else gap) +
          (if kind = .void then 1 else 0) ∧
        (t.clip c).cursor.map (·.next) = some (first + 1) ∧
        (n < e.index → t.ring f = s.ring f) ∧
        (e.index < n → (t.ring f).Perm (⟨n, fr⟩ :: es) ∧ (t.ring f).Pairwise (·.index < ·.index)) ∧
        (t.feed f).counters.offGrid =
          (if off then bump (s.feed f).counters.offGrid else (s.feed f).counters.offGrid) ∧
        t.feed f = { s.feed f with
          counters := { (s.feed f).counters with offGrid := (t.feed f).counters.offGrid } } ∧
        (∀ d : ClipNo, d ≠ c → t.clip d = s.clip d) ∧ OtherFeedsKept f s t ∧
        t = { s with
          handedFrames := s.handedFrames.erase ⟨f, fr⟩, feeds := t.feeds, smc := t.smc,
          rings := t.rings, placed := t.placed, clips := t.clips, sw := t.sw,
          nextSerial := t.nextSerial }) ∧
    ((s.clip c).working.fillLimit < gap → openable f s = none → storeCount s < 4096 →
      ∃ t : State, exec (.frameAdmission f k) s = .next t ∧
        (t.clip c).state = .draining ∧ (t.clip c).endReason = some .discontinuity ∧
        (t.feed f).state = .stalled ∧ (t.feed f).clip = none ∧ t.ring f = [] ∧
        t.contextsOf f = [] ∧ t.flagsOf f &&& 0x08 = 0x08 ∧
        (t.feed f).counters.notRecording.toNat =
          min ((s.feed f).counters.notRecording.toNat + (s.ring f).length +
            (s.contextsOf f).length + (s.handedFrames.filter (fun h => h.feed == f)).length +
            (s.handedUnits.filter (fun x => x.feed == f)).length) 4294967295 ∧
        (∀ d : ClipNo, d ≠ c → t.clip d = s.clip d) ∧ OtherFeedsKept f s t ∧
        t = { s with
          feeds := t.feeds, clips := t.clips, contexts := t.contexts, rings := t.rings,
          handedUnits := t.handedUnits, handedFrames := t.handedFrames, smc := t.smc, sw := t.sw,
          mu := t.mu, nextSerial := t.nextSerial })

/-- A hold that expires in front of a gap larger than F is a discontinuity: the clip ends DISCONTINUITY
and drains, DISCONTINUITY_SEEN is raised, and a successor opens whose origin is the head, placed at
index 0, with the label that continues the predecessor's (R65, R71, R13, R79). -/
def Obligations.GapBeyondTheLimitStartsASuccessor : Prop :=
  ∀ (f : FeedNo) (c d : ClipNo) (u : Cursor) (g : Segment) (n : Nat) (fr : Frame) (s : State),
    Recording f c u g s → OnlyRing f s → s.ring f = [⟨n, fr⟩] → s.wall.toNat % 1200 = 0 →
    u.next < n → 1200 * (s.feed f).cfg.hold ≤ (s.wall - fr.commit).toNat →
    (s.clip c).working.fillLimit < n - u.next → openable f s = some d → storeCount s + 2 ≤ 4096 →
    2 ≤ ((s.feed f).pending.getD (s.feed f).cfg.staged).segLen → 2 ≤ (limitOf (s.feed f).cfg).1 →
    (fr.kind = .void ∨ shareUsed s < 224) → s.bu.queue = [] →
    ∃ t : State, exec (.reorderHoldExpiry f) s = .next t ∧
      (t.clip c).state = .draining ∧ (t.clip c).endReason = some .discontinuity ∧
      (t.clip c).openSeg = none ∧ (t.clip c).segsClosed = (s.clip c).segsClosed + 1 ∧
      t.flagsOf f &&& 0x08 = 0x08 ∧
      (t.feed f).state = .recording ∧ (t.feed f).clip = some d ∧ (t.clip d).state = .recording ∧
      (t.clip d).feed = f ∧ (t.clip d).origin = some fr.stamp ∧ (t.clip d).placed = 1 ∧
      (t.clip d).startLabel =
        ((s.clip c).startLabel + (s.clip c).placed) %
          (86400 * ((1200000 + (s.feed f).cfg.period - 1) / (s.feed f).cfg.period)) ∧
      (t.clip d).working = (s.feed f).pending.getD (s.feed f).cfg.staged ∧
      (t.clip d).essenceHandle = (s.feed f).cfg.handleNext ∧ (t.feed f).pending = none ∧
      (t.clip d).cursor.map (fun v => (v.origin, v.next)) = some (some (fr.stamp, fr.commit), 1) ∧
      t.ring f = [] ∧ (∀ e : ClipNo, e ≠ c → e ≠ d → t.clip e = s.clip e) ∧
      OtherFeedsKept f s t ∧
      t = { s with
        feeds := t.feeds, smc := t.smc, rings := t.rings, placed := t.placed, clips := t.clips,
        bu := t.bu, sw := t.sw, mu := t.mu, nextSerial := t.nextSerial }

/-- A pacing request fills the indices N to T, T = floor((wall - w0) / p) - A, as one run of the kind
R70 gives, whatever F; with T below N it has no effect (R76). An index that would need a 201st fill run
first closes its segment short, as a non-final close, and is the first index of the next segment (R89,
R91, R86). -/
def Obligations.PacingFillsUpToTheTarget : Prop :=
  ∀ (f : FeedNo) (c : ClipNo) (u : Cursor) (g : Segment) (o w0 : Tick) (s : State),
    Recording f c u g s → (∀ h : FeedNo, s.ring h = []) → f ∈ s.fw.pacing →
    u.origin = some (o, w0) → 0 ≤ (s.wall - w0).toInt →
    let target : Int :=
      (s.wall - w0).toInt / ((s.feed f).cfg.period : Int) - ((s.feed f).cfg.pacing : Int)
    let run := (target - (u.next : Int) + 1).toNat
    (target < (u.next : Int) →
      exec (.pacingFill f) s = .next { s with fw := { s.fw with pacing := s.fw.pacing.erase f } }) ∧
    ((u.next : Int) ≤ target → (s.clip c).working.mode = .off →
      g.frames + run < (s.clip c).working.segLen → g.runs.length < 200 →
      u.next + run < (limitOf (s.feed f).cfg).1 →
      ∃ t : State, exec (.pacingFill f) s = .next t ∧
        (t.clip c).placed = (s.clip c).placed + run ∧
        (t.clip c).repeats = (s.clip c).repeats + (if u.lastEssence.isSome then run else 0) ∧
        (t.clip c).voids = (s.clip c).voids + (if u.lastEssence.isSome then 0 else run) ∧
        (t.clip c).essence = (s.clip c).essence ∧
        (t.clip c).cursor = some { u with next := u.next + run } ∧
        (∀ d : ClipNo, d ≠ c → t.clip d = s.clip d) ∧
        t = { s with
          clips := t.clips, fw := { s.fw with pacing := s.fw.pacing.erase f } }) ∧
    (let kind : FillKind := if u.lastEssence.isSome then .rep else .void;
      target = (u.next : Int) → (s.clip c).working.mode = .off → g.runs.length = 200 →
      (∀ x ∈ g.runs.getLast?, ¬(x.kind = kind ∧ x.start + x.count = g.frames)) →
      storeCount s < 4096 → 2 ≤ ((s.feed f).pending.getD (s.clip c).working).segLen →
      u.next + 1 < (limitOf (s.feed f).cfg).1 →
      ∃ t : State, exec (.pacingFill f) s = .next t ∧
        (t.clip c).placed = (s.clip c).placed + 1 ∧ (t.clip c).state = .recording ∧
        (t.clip c).cursor.map (·.next) = some (u.next + 1) ∧
        (t.clip c).segsClosed = (s.clip c).segsClosed + 1 ∧
        (∃ x : ClosedSegment, OneMoreClosed (s.clip c) (t.clip c) x ∧
          x.record.number = g.number ∧ x.record.frames = g.frames ∧ x.record.runs = g.runs ∧
          x.record.holes = g.holes ∧ x.record.final = none ∧ x.unanswered = g.unanswered) ∧
        (∃ h : Segment, (t.clip c).openSeg = some h ∧ h.number = g.number + 1 ∧
          h.first = (s.clip c).placed ∧ h.frames = 1 ∧ h.runs = [⟨0, 1, kind⟩] ∧ h.bytes = 0 ∧
          h.offset = (s.clip c).bytes ∧ h.firstPick = (s.clip c).picks ∧ h.picks = 0 ∧
          h.holes = [] ∧ h.unanswered = []) ∧
        (t.clip c).working = (s.feed f).pending.getD (s.clip c).working ∧
        (t.feed f).pending = none ∧ (∀ d : ClipNo, d ≠ c → t.clip d = s.clip d))

/-! ### Clips and publication -/

/-- OPEN CLIP on an IDLE feed opens the lowest-numbered FREE record in OPEN for it: three consecutive
handles, the entry's staged fields as working values, the named or the entry's start label, an empty
segment 0; the feed records it, and the response carries the clip number. Without a record or handles
it is NO_ROOM, outside IDLE it is STATE, and an invalid label is BAD_VALUE (R11, R5, R84). -/
def Obligations.OpenClipOpensTheLowestFreeRecord : Prop :=
  ∀ (r : Request) (rs : List Request) (f : FeedNo) (s : State), ReadyFor .openClip r rs s →
    TxRoomFor 3 s → 6 ≤ r.body.length → field 0 1 r.body = f.val →
    let named := field 1 1 r.body = 1
    let label := if named then labelAt 2 r.body else (s.feed f).cfg.startLabel
    let h := (s.feed f).cfg.handleNext
    if (s.feed f).state ≠ .idle then
      exec .openClip s = .next (responded r rs .state [] s)
    else if 1 < field 1 1 r.body ∨ (named ∧ labelValid (s.feed f).cfg.period label = false) then
      exec .openClip s = .next (responded r rs .badValue [] s)
    else if (∀ c : ClipNo, (s.clip c).state ≠ .free) ∨
        (s.feed f).cfg.handleCeiling.toNat < h.toNat + 2 then
      exec .openClip s = .next (responded r rs .noRoom [] s)
    else
      ∃ (t : State) (c : ClipNo), exec .openClip s = .next t ∧ (s.clip c).state = .free ∧
        (∀ d : ClipNo, (s.clip d).state = .free → c ≤ d) ∧
        (t.feed f).state = .recording ∧ (t.feed f).clip = some c ∧ (t.feed f).starved = 0 ∧
        (t.feed f).cfg.handleNext.toNat =
          (if h.toNat = 4294967293 then 4294967295 else h.toNat + 3) ∧
        t.clip c = { Clip.freeRecord with
          feed := f, state := .opened, essenceHandle := h, browseHandle := h + 1,
          indexHandle := h + 2, startLabel := labelCount (s.feed f).cfg.period label,
          working := (s.feed f).cfg.staged,
          openSeg := some
            { number := 0, first := 0, frames := 0,
              firstLabel := labelCount (s.feed f).cfg.period label, offset := 0, bytes := 0,
              runs := [], firstPick := 0, picks := 0, holes := [], unanswered := [] },
          cursor := some
            { origin := none, next := 0, lastEssence := none, offset := 0,
              acc := (s.feed f).cfg.staged.bd - (s.feed f).cfg.staged.bn, picks := 0 } } ∧
        (∀ d : ClipNo, d ≠ c → t.clip d = s.clip d) ∧ OtherFeedsKept f s t ∧
        t.flagsOf f = s.flagsOf f ||| 0x01 ∧
        t = { s with feeds := t.feeds, clips := t.clips, mu := t.mu } ∧
        t.mu.requests = rs ∧ t.mu.tx.getLast? = some (responseTo r .done [BitVec.ofNat 8 c.val] s)

/-- CLOSE CLIP of a clip in OPEN or RECORDING ends it STOPPED with its open segment closed as the final
one, drops the feed's unplaced work, applies a pending staged set and takes the feed to IDLE; of any
other clip it is refused with STATE (R12, R85, R90, R91, R7). -/
def Obligations.CloseClipEndsTheRecording : Prop :=
  ∀ (r : Request) (rs : List Request) (c : ClipNo) (s : State), ReadyFor .closeClip r rs s →
    1 ≤ r.body.length → field 0 1 r.body = c.val →
    (¬BeingPlaced (s.clip c) → TxRoomFor 1 s →
      exec .closeClip s = .next (responded r rs .state [] s)) ∧
    ∀ (f : FeedNo) (g : Segment), BeingPlaced (s.clip c) → (s.clip c).feed = f →
      (s.feed f).state = .recording → (s.clip c).openSeg = some g → storeCount s < 4096 →
      Settled s →
      ∃ t : State, exec .closeClip s = .next t ∧
        (t.clip c).state = .draining ∧ (t.clip c).endReason = some .stopped ∧
        (t.clip c).cursor = none ∧ (t.clip c).openSeg = none ∧
        (t.clip c).segsClosed = (s.clip c).segsClosed + 1 ∧
        (t.clip c).placed = (s.clip c).placed ∧
        (∃ x : ClosedSegment, (t.clip c).closed.getLast? = some x ∧ x.record.number = g.number ∧
          x.record.frames = g.frames ∧ x.record.final = some .stopped ∧
          x.unanswered = g.unanswered) ∧
        (t.feed f).state = .idle ∧ (t.feed f).clip = none ∧ (t.feed f).pending = none ∧
        (t.feed f).cfg.staged = (s.feed f).pending.getD (s.feed f).cfg.staged ∧
        t.ring f = [] ∧ t.contextsOf f = [] ∧ (∀ d : ClipNo, d ≠ c → t.clip d = s.clip d) ∧
        OtherFeedsKept f s t ∧
        t = { s with
          feeds := t.feeds, clips := t.clips, contexts := t.contexts, rings := t.rings,
          handedUnits := t.handedUnits, handedFrames := t.handedFrames, smc := t.smc, sw := t.sw,
          mu := t.mu, nextSerial := t.nextSerial }

/-- RELEASE CLIP of a CLOSED or FAILED clip that no write and no reduction refers to frees the record,
which the first STALLED feed whose handle range can supply a clip then takes; with a write or reduction
left it is BUSY, and in any other state STATE (R99, R14). -/
def Obligations.ReleaseClipFreesTheRecord : Prop :=
  ∀ (r : Request) (rs : List Request) (c : ClipNo) (s : State), ReadyFor .releaseClip r rs s →
    1 ≤ r.body.length → field 0 1 r.body = c.val → TxRoomFor 4 s →
    let held := (∃ e ∈ s.sw.queue, e.clip = c) ∨ (∃ x ∈ s.bu.queue, x.clip = c) ∨
      (∃ st ∈ s.bu.step, ∃ x ∈ st.lanes, x.clip = c)
    ((s.clip c).state ≠ .closed → (s.clip c).state ≠ .failed →
      exec .releaseClip s = .next (responded r rs .state [] s)) ∧
    ((s.clip c).state = .closed ∨ (s.clip c).state = .failed →
      (held → exec .releaseClip s = .next (responded r rs .busy [] s)) ∧
      (¬held → ∃ t : State, exec .releaseClip s = .next t ∧ t.mu.requests = rs ∧
        t.mu.tx.getLast? = some (responseTo r .done [] s) ∧
        (∀ d : ClipNo, d ≠ c → t.clip d = s.clip d) ∧
        t = { s with feeds := t.feeds, clips := t.clips, mu := t.mu } ∧
        match (List.finRange 32).find? (fun f => decide ((s.feed f).state = .stalled ∧
            (s.feed f).cfg.handleNext.toNat + 2 ≤ (s.feed f).cfg.handleCeiling.toNat)) with
        | none => t.clip c = Clip.freeRecord ∧ t.feeds = s.feeds
        | some f =>
          (t.clip c).state = .opened ∧ (t.clip c).feed = f ∧ (t.feed f).clip = some c ∧
            (t.feed f).state = .recording ∧ (t.clip c).working = (s.feed f).cfg.staged ∧
            OtherFeedsKept f s t))

/-! ### Browse -/

/-- `n` browse steps of a RATIO clip from accumulator `a` make floor((a + n * bn) / bd) picks and leave the
accumulator at the remainder, so that it stays from 0 to bd - 1 (R103). A placed frame takes one browse step:
in RATIO mode a MEDIA or a VOID frame is a pick where the sum reaches bd, in MARKED mode a MEDIA frame with
the mark flag is, and in NONE none. A pick takes the pick count as its number. On a VOID fill, under PRESSURE,
or at 64 entries it is a hole of the open segment, the last two counted as shed. Otherwise it joins the end of
the reduction queue with the segment, feed entry values and frame of R106, which puts a reduction hold on the
frame (R105, R106, R86); an idle reducer starts a step with it at once, which ends after the duration of its
cost class, or sheds it as a late hole where its output blocks are refused (R108, R109, R112, R113). That the
reducer starts once the placement's acts are done, so that the hole of a pick shed there is listed, is the
model's reading (assumption log 12). It speaks of states whose placed frames and queued entries carry numbers
below the next one. -/
def Obligations.RatioStepsPickOneIndexInEveryRatio : Prop :=
  (∀ (bn bd a n : Nat), 1 ≤ bn → bn ≤ bd → a < bd →
    let steps := (List.range n).foldl
      (fun (x : Nat × Nat) _ =>
        let y := ratioStep bn bd x.1
        (y.1, x.2 + (if y.2 then 1 else 0))) (a, 0)
    steps = ((a + n * bn) % bd, (a + n * bn) / bd)) ∧
  ∀ (f : FeedNo) (k : FrameKind) (c : ClipNo) (u : Cursor) (g : Segment) (o w0 : Tick) (fr : Frame)
    (s : State),
    Recording f c u g s → nextFrame f k s = some ⟨f, fr⟩ → OnlyRing f s → s.ring f = [] →
    u.origin = some (o, w0) → indexOf (s.feed f).cfg.period o fr.stamp = some u.next →
    0 < (s.feed f).cfg.depth → g.frames + 1 < (s.clip c).working.segLen → g.runs.length < 200 →
    g.holes.length < 200 → u.next + 1 ≠ (limitOf (s.feed f).cfg).1 →
    (k = .void ∨ shareUsed s < 224) → (s.bu.step.isSome ∨ s.bu.queue = []) →
    (∀ x ∈ s.bu.queue, x.frame < s.nextSerial) → (∀ p ∈ s.placed, p.id < s.nextSerial) →
    let w := (s.clip c).working
    let cfg := (s.feed f).cfg
    let sum := u.acc + w.bn
    let pick := (w.mode = .ratio ∧ w.bd ≤ sum) ∨ (w.mode = .marked ∧ k = .media ∧ fr.mark = true)
    let hole := k = .void ∨ s.smc.pressure = true ∨ 64 ≤ s.bu.queue.length
    let r : Reduction :=
      { feed := f, clip := c, segment := g.number, pick := u.picks, frame := s.nextSerial,
        cost := cfg.cost, outSize := 4096 * cfg.browseUnits, discard := false }
    let out := (r.outSize + 65535) / 65536
    let length := 120 * (match cfg.cost with | .a => s.bu.durA | .b => s.bu.durB)
    let placed := fun (held : Bool) => (⟨s.nextSerial, fr.size, fr.blocks, fr.data, true, held⟩ : PlacedFrame)
    ∃ t : State, exec (.frameAdmission f k) s = .next t ∧
      (t.clip c).cursor.map (fun v => (v.next, v.acc)) = some (u.next + 1,
        if w.mode = .ratio then (if w.bd ≤ sum then sum - w.bd else sum) else u.acc) ∧
      (¬pick → (t.clip c).cursor.map (·.picks) = some u.picks ∧
        (t.clip c).picks = (s.clip c).picks ∧ (t.clip c).holes = (s.clip c).holes ∧
        t.bu = s.bu ∧ (k = .media → placed false ∈ t.placed)) ∧
      (pick → (t.clip c).cursor.map (·.picks) = some (u.picks + 1) ∧
        (t.clip c).picks = (s.clip c).picks + 1 ∧
        (t.clip c).openSeg.map (·.picks) = some (g.picks + 1) ∧
        (hole → (t.clip c).holes = (s.clip c).holes + 1 ∧
          (t.clip c).openSeg.map (·.holes) = some (g.holes ++ [u.picks]) ∧
          (k = .void → t.bu = s.bu) ∧
          (k = .media → placed false ∈ t.placed ∧ t.bu = { s.bu with
            counters := if s.smc.pressure then
              { s.bu.counters with shedPressure := bump s.bu.counters.shedPressure }
            else { s.bu.counters with shedQueueFull := bump s.bu.counters.shedQueueFull } })) ∧
        (¬hole →
          (s.bu.step.isSome = true → t.bu = { s.bu with queue := s.bu.queue ++ [r] } ∧
            (t.clip c).holes = (s.clip c).holes ∧
            (t.clip c).openSeg.map (·.holes) = some g.holes ∧ placed true ∈ t.placed) ∧
          (s.bu.step = none → out ≤ 65536 - s.smc.occupancy →
            t.bu = { s.bu with step := some ⟨[r], s.wall + BitVec.ofNat 48 length⟩ } ∧
            t.smc.occupancy = s.smc.occupancy + out ∧ (t.clip c).holes = (s.clip c).holes ∧
            (t.clip c).openSeg.map (·.holes) = some g.holes ∧ placed true ∈ t.placed) ∧
          (s.bu.step = none → 65536 - s.smc.occupancy < out →
            t.bu = { s.bu with counters :=
              { s.bu.counters with shedNoBlocks := bump s.bu.counters.shedNoBlocks } } ∧
            (t.clip c).holes = (s.clip c).holes + 1 ∧ placed false ∈ t.placed))) ∧
      (∀ d : ClipNo, d ≠ c → t.clip d = s.clip d) ∧ OtherFeedsKept f s t ∧
      t = { s with
        handedFrames := s.handedFrames.erase ⟨f, fr⟩, feeds := t.feeds, smc := t.smc,
        rings := t.rings, placed := t.placed, clips := t.clips, bu := t.bu, sw := t.sw, mu := t.mu,
        nextSerial := t.nextSerial }

/-- A reduction step that has ended delivers each lane's result, older entry first, and each lane's hold
on its placed frame ends, with the frame's blocks back in the pool where its essence hold has ended too
(R108, R110, R115). A lane that carries the discard mark or whose clip is neither RECORDING nor DRAINING
is discarded: its output blocks return, it counts, and no write is queued (R111). Any other is delivered as
a BROWSE write of its output size at pick number times output size, or, where the non-index share is full,
shed with its output blocks returned and its pick a late hole; of two results and one free entry the older
takes it (R110, R113). With entries waiting and blocks for them the next step starts at once with the two
oldest, and ends after the longer duration (R108, R109, R112). -/
def Obligations.StepEndDeliversShedsOrDiscards : Prop :=
  ∀ (x : Reduction) (ys : List Reduction) (p : PlacedFrame) (ends : Tick) (s : State),
    s.resetLine = false → s.bu.step = some ⟨x :: ys, ends⟩ → 0 ≤ (s.wall - ends).toInt → Settled s →
    (s.placed.map (·.id)).Nodup → p ∈ s.placed → p.id = x.frame → p.reductionHold = true →
    let out := fun r : Reduction => (r.outSize + 65535) / 65536
    let length := fun r : Reduction => 120 * (match r.cost with | .a => s.bu.durA | .b => s.bu.durB)
    let live := fun r : Reduction => r.discard = false ∧
      ((s.clip r.clip).state = .recording ∨ (s.clip r.clip).state = .draining)
    let back := if p.essenceHold then 0 else p.blocks
    ∃ t : State, exec .stepEnd s = .next t ∧
      t = { s with
        smc := t.smc, placed := t.placed, clips := t.clips, bu := t.bu, sw := t.sw, mu := t.mu,
        nextSerial := t.nextSerial } ∧
      t.smc.holdings = s.smc.holdings ∧ t.smc.level = s.smc.level ∧
      (∀ q ∈ t.placed, q.id ∈ (x :: ys).map (·.frame) → q.reductionHold = false) ∧
      (∀ (a : Reduction) (rest : List Reduction), s.bu.queue = a :: rest →
        ((s.bu.queue.take 2).map out).sum ≤ 65536 - s.smc.occupancy →
        t.bu.queue = rest.drop 1 ∧ t.bu.step = some ⟨s.bu.queue.take 2,
          s.wall + BitVec.ofNat 48 (((s.bu.queue.take 2).map length).foldl max 0)⟩) ∧
      (s.bu.queue = [] → t.bu.step = none ∧ t.bu.queue = [] ∧
        (∀ d : ClipNo, (∀ r ∈ x :: ys, r.clip ≠ d) → t.clip d = s.clip d) ∧
        (ys = [] →
          t.placed = (if p.essenceHold then
            s.placed.map (fun q => if q.id = x.frame then { q with reductionHold := false } else q)
            else s.placed.filter (fun q => q.id ≠ x.frame)) ∧
          (¬live x → t.smc.occupancy = s.smc.occupancy - out x - back ∧
            t.bu.counters = { s.bu.counters with discarded := bump s.bu.counters.discarded } ∧
            t.sw = s.sw ∧ t.clips = s.clips) ∧
          (live x → shareUsed s < 224 → t.smc.occupancy = s.smc.occupancy - back ∧
            t.bu.counters = { s.bu.counters with delivered := bump s.bu.counters.delivered } ∧
            t.clips = s.clips ∧ ∃ e ∈ t.sw.queue, BrowseWriteOf x s e) ∧
          (live x → 224 ≤ shareUsed s → t.smc.occupancy = s.smc.occupancy - out x - back ∧
            t.bu.counters.shedShare = bump s.bu.counters.shedShare ∧
            t.bu.counters.delivered = s.bu.counters.delivered ∧ t.sw = s.sw ∧
            LateHoleTaken x.clip x.segment x.pick s t)) ∧
        ∀ y : Reduction, ys = [y] → y.frame ≠ x.frame → live x → live y →
          (shareUsed s < 223 →
            t.bu.counters.delivered = bump (bump s.bu.counters.delivered) ∧ t.clips = s.clips ∧
              ∃ e₁ ∈ t.sw.queue, ∃ e₂ ∈ t.sw.queue, BrowseWriteOf x s e₁ ∧ BrowseWriteOf y s e₂ ∧
                e₁.serial < e₂.serial) ∧
          (shareUsed s = 223 →
            t.bu.counters.delivered = bump s.bu.counters.delivered ∧
              t.bu.counters.shedShare = bump s.bu.counters.shedShare ∧
              (∃ e ∈ t.sw.queue, BrowseWriteOf x s e) ∧
              t.sw.queue.length = s.sw.queue.length + 1 ∧
              LateHoleTaken y.clip y.segment y.pick s t))

/-! ### The Storage Writer -/

/-- A write's pieces are ceil(length / 8,192) Ethernet frames of at most 9,216 bytes with the frame
check; each carries the write ID and its piece number, and together their data is the write's (R124,
R176). -/
def Obligations.PiecesCarryTheWholeWrite : Prop :=
  ∀ w : PortWrite, 1 ≤ w.length → (w.data.bytes w.length).length = w.length →
    w.frames.length = (w.length + 8191) / 8192 ∧
    (∀ x ∈ w.frames, x.length + 4 ≤ 9216) ∧
    (∀ k, k < (w.length + 8191) / 8192 →
      (w.piece k).take 2 = [0x01, w.id] ∧ field 2 2 (w.piece k) = k % 65536 ∧
        1 ≤ ((w.piece k).drop 22).length ∧ ((w.piece k).drop 22).length ≤ 8192) ∧
    (List.range ((w.length + 8191) / 8192)).flatMap (fun k => (w.piece k).drop 22) =
      w.data.bytes w.length

/-- An OK answer for a write of the window takes its entry out of the queue and counts once as
acknowledged, whatever its class and its clip's state (R125, R126). An ESSENCE write leaves the unanswered
set of its segment (R93); the INDEX write of a clip that has not failed takes the first closed segment out
of the clip's list, adds its frames to the frontier and one to the records published, and with the final
segment the clip goes to CLOSED (R96). -/
def Obligations.OkAnswerTakesTheWriteOut : Prop :=
  ∀ (fr : EthFrame) (e : WriteEntry) (s : State), AnswerFor fr 1 e s → e.serial < s.nextSerial →
    ∃ t : State, exec (.writeAnswer fr) s = .next t ∧ (∀ x ∈ t.sw.queue, x.serial ≠ e.serial) ∧
      (t.sw.counters.get e.cls).acknowledged = bump (s.sw.counters.get e.cls).acknowledged ∧
      t.sw.stray = s.sw.stray ∧
      (e.cls = .essence → (∀ g ∈ (t.clip e.clip).openSeg, e.serial ∉ g.unanswered) ∧
        ∀ g ∈ (t.clip e.clip).closed, e.serial ∉ g.unanswered) ∧
      ((∀ h : FeedNo, s.ring h = []) →
        t = { s with
          clips := t.clips, smc := t.smc, placed := t.placed, bu := t.bu, sw := t.sw, mu := t.mu,
          nextSerial := t.nextSerial } ∧
        (e.cls = .essence →
          (t.clip e.clip).openSeg = (s.clip e.clip).openSeg.map (fun g =>
            { g with unanswered := g.unanswered.filter (fun n => n != e.serial) }) ∧
          (t.clip e.clip).closed.map (fun g => (g.record, g.unanswered)) =
            (s.clip e.clip).closed.map (fun g =>
              (g.record, g.unanswered.filter (fun n => n != e.serial)))) ∧
        (∀ (g : ClosedSegment) (gs : List ClosedSegment), e.cls = .index →
          (s.clip e.clip).state ≠ .failed → (s.clip e.clip).closed = g :: gs →
          (t.clip e.clip).frontier = (s.clip e.clip).frontier + g.record.frames ∧
          (t.clip e.clip).records = (s.clip e.clip).records + 1 ∧
          (t.clip e.clip).closed.map (·.record) = gs.map (·.record) ∧
          (t.clip e.clip).state =
            (if g.record.final.isSome then .closed else (s.clip e.clip).state)) ∧
        (e.cls = .index → (s.clip e.clip).state = .failed → t.clip e.clip = s.clip e.clip))

/-- A FAULT answer aborts its write at once, whatever its class's policy and its attempts: it leaves
the queue, counts in *fault answers* and *aborts*, and sets FAULT in the class's abort record; an
ESSENCE or INDEX write of a RECORDING or DRAINING clip fails its clip (R127, R133, R134, R97). -/
def Obligations.FaultAnswerAbortsTheWrite : Prop :=
  ∀ (fr : EthFrame) (e : WriteEntry) (s : State), AnswerFor fr 3 e s → e.serial < s.nextSerial →
    ((s.clip e.clip).state = .draining → (s.clip e.clip).cursor = none) →
    ∃ t : State, exec (.writeAnswer fr) s = .next t ∧ (∀ x ∈ t.sw.queue, x.serial ≠ e.serial) ∧
      (t.sw.counters.get e.cls).fault = bump (s.sw.counters.get e.cls).fault ∧
      (t.sw.counters.get e.cls).aborts = bump (s.sw.counters.get e.cls).aborts ∧
      (t.sw.records.get e.cls) &&& 0x01 = 0x01 ∧
      (e.cls ≠ .browse → (s.clip e.clip).state = .recording ∨ (s.clip e.clip).state = .draining →
        (t.clip e.clip).state = .failed ∧ (t.clip e.clip).closed = [] ∧
          (t.clip e.clip).frontier = (s.clip e.clip).frontier)

/-- A BUSY answer counts once, and its class's busy policy decides what follows. Under WAIT its write returns
to QUEUED with its attempts unchanged and the class, which sends nothing, is paused (R128, R120). Under RETRY,
below the retry limit, it returns with one attempt more and a backoff that ends 12 ticks for each 10 µs of the
interval after the answer; at the limit it is aborted as RETRIES_EXHAUSTED (R130). Under SHED it is aborted as
BUSY_SHED, whatever its attempts (R131). An aborted ESSENCE or INDEX write fails its live clip (R133, R97). An
ESSENCE or INDEX write of a FAILED clip that would return is removed instead: it counts as removed and sets
CLIP_FAILED, but for a clip that failed by a full record store (R135). -/
def Obligations.BusyUnderWaitPausesTheClass : Prop :=
  ∀ (fr : EthFrame) (e : WriteEntry) (s : State), AnswerFor fr 2 e s → WindowSound s →
    let policy := s.sw.settings.policy.get e.cls
    let below := e.attempts < s.sw.settings.retry.get e.cls
    let dead := (s.clip e.clip).state = .failed ∧ e.cls ≠ .browse
    let aborted := fun (t : State) (flag : BitVec 5) =>
      (∀ x ∈ t.sw.queue, x.serial ≠ e.serial) ∧ (t.sw.records.get e.cls) &&& flag = flag ∧
        (t.sw.counters.get e.cls).aborts = bump (s.sw.counters.get e.cls).aborts ∧
        (e.cls ≠ .browse → (s.clip e.clip).state = .recording ∨ (s.clip e.clip).state = .draining →
          ((s.clip e.clip).state = .draining → (s.clip e.clip).cursor = none) →
          (t.clip e.clip).state = .failed ∧ (t.clip e.clip).closed = [] ∧
            (t.clip e.clip).frontier = (s.clip e.clip).frontier)
    ∃ t : State, exec (.writeAnswer fr) s = .next t ∧
      (t.sw.counters.get e.cls).busy = bump (s.sw.counters.get e.cls).busy ∧
      (∀ k : WriteClass, k ≠ e.cls → t.sw.paused.get k = s.sw.paused.get k) ∧
      t.sw.paused.get e.cls = (if policy = .wait then true else s.sw.paused.get e.cls) ∧
      (policy = .wait → ¬dead → Settled s →
        { e with flight := none } ∈ t.sw.queue ∧
        (t.sw.counters.get e.cls).sends = (s.sw.counters.get e.cls).sends ∧
        t = { s with
          nextSerial := t.nextSerial
          sw := { s.sw with
            queue := t.sw.queue, portQueue := t.sw.portQueue, lastUsed := t.sw.lastUsed
            paused := t.sw.paused, counters := t.sw.counters } }) ∧
      (policy = .retry → below → ¬dead → Settled s →
        { e with
          flight := none, attempts := e.attempts + 1,
          backoffEnd := some (s.wall + BitVec.ofNat 48 (12 * s.sw.settings.backoff)) } ∈ t.sw.queue ∧
        t = { s with
          nextSerial := t.nextSerial
          sw := { s.sw with
            queue := t.sw.queue, portQueue := t.sw.portQueue, lastUsed := t.sw.lastUsed
            counters := t.sw.counters } }) ∧
      (policy = .retry → ¬below → aborted t 0x02) ∧
      (policy = .shed → aborted t 0x04) ∧
      (policy = .wait ∨ (policy = .retry ∧ below) → dead →
        (∀ x ∈ t.sw.queue, x.serial ≠ e.serial) ∧
        ((s.clip e.clip).storeFailed = false → (t.sw.records.get e.cls) &&& 0x08 = 0x08) ∧
        ((∀ h : FeedNo, s.ring h = []) →
          (t.sw.counters.get e.cls).removed = bump (s.sw.counters.get e.cls).removed ∧
          ((s.clip e.clip).storeFailed = true → t.sw.records = s.sw.records) ∧
          ∀ c : ClipNo, (t.clip c).state = (s.clip c).state))

/-- A frame on the storage port that is no WRITE-ANSWER for a write of the window is counted and changes
nothing else: a stray answer, or a foreign frame, which is one whose frame check is bad or whose length is
above 9,216, of another source or another type (read past one VLAN tag), or whose message has another kind
byte than WRITE-ANSWER's or READY's, or is a WRITE-ANSWER of fewer than three bytes (R125, R176). -/
def Obligations.StrayAndForeignStorageFramesAreOnlyCounted : Prop :=
  ∀ (fr : EthFrame) (s : State), s.resetLine = false → s.storCarrier = true →
    let tagged := field 12 2 fr.bytes = 0x8100
    let message := fr.bytes.drop (if tagged then 18 else 14)
    (∀ id result : Byte, classifyStorage s.sw.settings.peer fr = .answer id result →
      (inFlight id s = none ∨ (result ≠ 1 ∧ result ≠ 2 ∧ result ≠ 3)) →
      exec (.writeAnswer fr) s = .next { s with sw := { s.sw with stray := bump s.sw.stray } }) ∧
    (fr.fcsGood = false ∨ 9216 < fr.bytes.length + 4 ∨ s.sw.settings.peer ≠ some (frameSource fr) ∨
        field (if tagged then 16 else 12) 2 fr.bytes ≠ 0x88D7 ∨
        (message.head? ≠ some 2 ∧ message.head? ≠ some 3) ∨
        (message.head? = some 2 ∧ message.length < 3) →
      exec (.storageForeignFrame fr) s =
        .next { s with sw := { s.sw with foreign := bump s.sw.foreign } })

/-- READY from the peer clears the pause of every class and counts once; with no class paused it
changes nothing but the counter, wherever the arbiter cannot send: the hold line asserted, 16 writes in the
window, no write to send, or no free ID (R129, R122, R123). -/
def Obligations.ReadyClearsEveryPause : Prop :=
  ∀ (fr : EthFrame) (s : State), s.resetLine = false → s.storCarrier = true →
    classifyStorage s.sw.settings.peer fr = .ready →
    (∃ t : State, exec (.ready fr) s = .next t ∧ t.sw.paused = ⟨false, false, false⟩ ∧
      t.sw.readies = bump s.sw.readies ∧ t = { s with sw := t.sw, nextSerial := t.nextSerial }) ∧
    (s.sw.paused = ⟨false, false, false⟩ →
      s.holdLine = true ∨ 16 ≤ (window s).length ∨ sendChoice s = none ∨ nextId s = none →
      exec (.ready fr) s = .next { s with sw := { s.sw with readies := bump s.sw.readies } })

/-- As the last piece of the oldest write leaves the port, that write's send time is the wall time,
where it is still in flight by the send that those pieces belong to (R124): the pieces of an earlier send
of the entry set nothing, even where both sends carry one ID. -/
def Obligations.LastPieceFixesTheSendTime : Prop :=
  ∀ (w : PortWrite) (ws : List PortWrite) (s : State), s.resetLine = false → s.storCarrier = true →
    s.sw.portQueue = w :: ws →
    ∃ t : State, exec .lastPieceSent s = .next t ∧ t.sw.portQueue = ws ∧
      t.sw.lastMessages = w.frames ∧
      t.sw.queue = s.sw.queue.map (fun e =>
        match e.flight with
        | some fl =>
          if e.serial = w.serial ∧ fl.order = w.order then
            { e with flight := some { fl with sendTime := some s.wall } }
          else e
        | none => e) ∧
      t = { s with placed := t.placed, smc := t.smc, sw := t.sw, mu := t.mu }

/-- The waits of the Storage Writer end with the wall counter: a backoff whose end it has reached becomes
absent (R130) and every other entry keeps its own, and at a millisecond step a retired ID is freed whose retirement wall time lies
1,200 * T ticks or more in the past, T being the ack timeout when it was retired (R123). That one command
takes one of them, the first backoff in queue order and the first ID in order of retirement, is the model's
reading (assumption log 18). -/
def Obligations.BackoffsAndRetirementsEndOnTime : Prop :=
  ∀ s : State, s.resetLine = false →
    (∀ e : WriteEntry,
      s.sw.queue.find? (fun x => x.backoffEnd.any (fun b => decide (0 ≤ (s.wall - b).toInt))) =
        some e →
      ∃ t : State, exec .backoffEnd s = .next t ∧
        t.sw.queue.map (fun x => (x.serial, x.backoffEnd)) =
          s.sw.queue.map (fun x => (x.serial, if x.serial = e.serial then none else x.backoffEnd)) ∧
        t.sw.retired = s.sw.retired ∧
        t = { s with sw := t.sw, nextSerial := t.nextSerial }) ∧
    (∀ x : RetiredId, s.wall.toNat % 1200 = 0 →
      s.sw.retired.find? (fun y =>
        decide (0 ≤ (s.wall - (y.since + BitVec.ofNat 48 (1200 * y.timeout))).toInt)) = some x →
      ∃ t : State, exec .retiredIdFreed s = .next t ∧ t.sw.retired = s.sw.retired.erase x ∧
        t.sw.queue.map (fun x => (x.serial, x.backoffEnd)) =
          s.sw.queue.map (fun x => (x.serial, x.backoffEnd)) ∧
        t = { s with sw := t.sw, nextSerial := t.nextSerial })

/-- At a millisecond step the writes have timed out whose send time lies 1,200 * T ticks or more in the past,
T being the ack timeout, and a write whose last piece has not left is not among them (R132). The one of them
sent first leaves the window: its ID is retired now and the timeout counts. Below its retry limit it is
QUEUED again with one attempt more and no backoff, and, with the hold line released, may be sent again at
once, under another ID; an ESSENCE or INDEX write of a failed clip is removed as CLIP_FAILED instead. At the
limit it is aborted (R132, R122, R123, R133, R135). Between two steps, and where no write has timed out, the
window stands. That one command takes exactly one timed-out write, so that one ID is retired by it, is the
model's reading (assumption log 18), and that a command without its occasion changes nothing is its choice
(log 4). -/
def Obligations.TimedOutWriteRetiresItsId : Prop :=
  ∀ s : State, s.resetLine = false →
    let out := fun x : WriteEntry => ∃ fl ∈ x.flight, ∃ sent ∈ fl.sendTime,
      1200 * s.sw.settings.ackTimeout ≤ (s.wall - sent).toNat
    ((s.wall.toNat % 1200 ≠ 0 ∨ ∀ x ∈ s.sw.queue, ¬out x) → exec .ackTimeout s = .next s) ∧
    ∀ (e : WriteEntry) (fl : Flight), s.wall.toNat % 1200 = 0 → WindowSound s → e ∈ s.sw.queue →
      e.flight = some fl → out e →
      (∀ x ∈ s.sw.queue, x ≠ e → out x → ∀ w ∈ x.flight, fl.order < w.order) →
      ∃ t : State, exec .ackTimeout s = .next t ∧
        t.sw.retired = s.sw.retired ++ [⟨fl.id, s.wall, s.sw.settings.ackTimeout⟩] ∧
        (t.sw.counters.get e.cls).timeouts = bump (s.sw.counters.get e.cls).timeouts ∧
        (if e.attempts < s.sw.settings.retry.get e.cls then
          if (s.clip e.clip).state = .failed ∧ e.cls ≠ .browse then
            (∀ x ∈ t.sw.queue, x.serial ≠ e.serial) ∧
              ((s.clip e.clip).storeFailed = false → (t.sw.records.get e.cls) &&& 0x08 = 0x08)
          else Settled s →
            (∃ x ∈ t.sw.queue,
              x = { e with
                flight := x.flight, attempts := e.attempts + 1, backoffEnd := none,
                sentBefore := x.sentBefore } ∧
              (∀ w ∈ x.flight, w.id ≠ fl.id ∧ w.sendTime = none) ∧
              (s.holdLine = true → x.flight = none)) ∧
              t = { s with sw := t.sw, nextSerial := t.nextSerial }
        else
          (∀ x ∈ t.sw.queue, x.serial ≠ e.serial) ∧
            (t.sw.records.get e.cls) &&& 0x02 = 0x02 ∧
            (t.sw.counters.get e.cls).aborts = bump (s.sw.counters.get e.cls).aborts)

/-- Link loss empties the window: every write of it whose clip is not FAILED, and every BROWSE write, is
QUEUED again with its attempts unchanged and no backoff, and the queued writes stay; an ESSENCE or INDEX
write of a FAILED clip is removed. The window's IDs are retired now, every pause is cleared, the port
stops, and LINK_DOWN is raised (R136, R135). -/
def Obligations.LinkLossReturnsTheWindow : Prop :=
  ∀ s : State, s.resetLine = false → s.storCarrier = true →
    ∃ t : State, exec .linkLoss s = .next t ∧ t.storCarrier = false ∧ window t = [] ∧
      (∀ id ∈ windowIds s,
        (⟨id, s.wall, s.sw.settings.ackTimeout⟩ : RetiredId) ∈ t.sw.retired) ∧
      t.sw.paused = ⟨false, false, false⟩ ∧ t.sw.portQueue = [] ∧
      t.mu.devFlags &&& 0x20 = 0x20 ∧ t.sw.settings = s.sw.settings ∧
      (WindowSound s →
        (∀ e ∈ s.sw.queue, (t.clip e.clip).state ≠ .failed ∨ e.cls = .browse →
          (if e.flight.isSome then { e with flight := none, backoffEnd := none } else e) ∈
            t.sw.queue) ∧
        (∀ e ∈ window s, (s.clip e.clip).state = .failed → e.cls ≠ .browse →
          ∀ x ∈ t.sw.queue, x.serial ≠ e.serial)) ∧
      ((∀ h : FeedNo, s.ring h = []) → ∀ c : ClipNo, (t.clip c).state = (s.clip c).state)

/-- The return of the storage carrier and each change of the hold line change the line's level and
raise the line's flag; the assertion sends no write (R137, R138, R165). -/
def Obligations.StorageLinesRaiseTheirFlags : Prop :=
  ∀ s : State, s.resetLine = false →
    (s.storCarrier = false → ∃ t : State, exec .carrierReturn s = .next t ∧ t.storCarrier = true ∧
      t.mu.devFlags = s.mu.devFlags ||| 0x10 ∧ t.sw.paused = s.sw.paused ∧
      t.sw.queue.map (·.serial) = s.sw.queue.map (·.serial) ∧
      t = { s with storCarrier := true, mu := t.mu, sw := t.sw, nextSerial := t.nextSerial }) ∧
    (s.holdLine = false → ∃ t : State, exec .storageHoldAsserted s = .next t ∧ t.holdLine = true ∧
      t.mu.devFlags = s.mu.devFlags ||| 0x04 ∧ t = { s with holdLine := true, mu := t.mu }) ∧
    (s.holdLine = true → ∃ t : State, exec .storageHoldReleased s = .next t ∧ t.holdLine = false ∧
      t.mu.devFlags = s.mu.devFlags ||| 0x08 ∧ t.sw.paused = s.sw.paused ∧
      t.sw.queue.map (·.serial) = s.sw.queue.map (·.serial) ∧
      t = { s with holdLine := false, mu := t.mu, sw := t.sw, nextSerial := t.nextSerial })

/-! ### Pressure and Feed Watch -/

/-- A period expiry that the wall counter has reached, with no sweep running, starts a sweep over the
watch sequence at the expiry's wall time and sets the next expiry one period on; an empty sequence's sweep
ends as it starts (R149). That the sweep is counted at its start is the model's choice (assumption log
32). -/
def Obligations.PeriodExpiryStartsASweep : Prop :=
  ∀ s : State, s.resetLine = false → s.fw.period ≠ 0 → s.fw.sweep = none →
    0 ≤ (s.wall - s.fw.nextExpiry).toInt →
    exec .periodExpiry s = .next { s with fw := { s.fw with
      nextExpiry := s.fw.nextExpiry + BitVec.ofNat 48 (1200 * (10 * s.fw.period))
      sweep := if s.fw.sequence = [] then none else some ⟨s.fw.nextExpiry, s.fw.sequence⟩
      sweeps := bump s.fw.sweeps } }

/-- A watch check of a feed outside OFF reads and zeroes its arrival byte count, gives the verdict of R150's
table, records it with the sweep's wall time, counts or clears starvation, sets or clears the throttle, and
hands on a pacing fill request or the loss of a RECORDING feed; a feed in OFF is passed over (R150, R151,
R152, R153, R165). That the sweeps counter stands, also at the check that ends the sweep, is the model's
choice: a sweep counts at its start (assumption log 32). -/
def Obligations.WatchCheckJudgesOneFeed : Prop :=
  ∀ (f : FeedNo) (fs : List FeedNo) (time : Tick) (s : State), s.resetLine = false →
    s.fw.sweep = some ⟨time, f :: fs⟩ →
    let e := s.feed f
    let low := (e.cfg.watchMode = .floor ∨ e.cfg.watchMode = .both) ∧ e.arrival.toNat < e.cfg.floor.toNat
    let high := (e.cfg.watchMode = .ceiling ∨ e.cfg.watchMode = .both) ∧
      e.cfg.ceiling.toNat < e.arrival.toNat
    let v : Verdict := if low then .starved else if high then .runaway else .normal
    let count := if v = .starved then min (e.starved + 1) 255 else 0
    ∃ t : State, exec .watchCheck s = .next t ∧
      t.fw.sweep = (if fs = [] then none else some ⟨time, fs⟩) ∧
      (e.state = .off → t.feeds = s.feeds ∧ t.fw.table = s.fw.table ∧ t.mu = s.mu) ∧
      (e.state ≠ .off →
        t.feed f = { e with arrival := 0, starved := count, throttled := decide (v = .runaway) } ∧
        t.watchEntry f = ⟨e.arrival, v, some time⟩ ∧
        t.fw.pacing = s.fw.pacing ++
          (if v = .starved ∧ e.state = .recording ∧ count < e.cfg.lostSweeps then [f] else []) ∧
        t.fw.losses = s.fw.losses ++
          (if v = .starved ∧ e.state = .recording ∧ e.cfg.lostSweeps ≤ count then [f] else []) ∧
        t.mu.devFlags = s.mu.devFlags |||
          (if (s.watchEntry f).verdict = v ∨ ((s.watchEntry f).verdict = .noVerdict ∧ v = .normal)
            then 0 else 0x40) ∧
        t.flagsOf f = s.flagsOf f ||| (if v = .runaway then 0x10 else 0)) ∧
      OtherFeedsKept f s t ∧
      t = { s with feeds := t.feeds, fw := t.fw, mu := t.mu } ∧ t.fw.sequence = s.fw.sequence ∧
      t.fw.period = s.fw.period ∧ t.fw.nextExpiry = s.fw.nextExpiry ∧ t.fw.sweeps = s.fw.sweeps

/-- The loss of a RECORDING feed ends its clip SOURCE_LOST, drops its work and takes it to LOST with
its starved count as it stands; outside RECORDING the loss has no effect (R15). -/
def Obligations.LossOfAFeedEndsItsClip : Prop :=
  ∀ (f : FeedNo) (s : State), s.resetLine = false → f ∈ s.fw.losses → Settled s →
    ((s.feed f).state ≠ .recording →
      exec (.feedLost f) s = .next { s with fw := { s.fw with losses := s.fw.losses.erase f } }) ∧
    ∀ (c : ClipNo) (u : Cursor) (g : Segment), (s.feed f).state = .recording →
      (s.feed f).clip = some c → (s.clip c).cursor = some u → (s.clip c).openSeg = some g →
      storeCount s < 4096 →
      ∃ t : State, exec (.feedLost f) s = .next t ∧ (t.clip c).state = .draining ∧
        (t.clip c).endReason = some .sourceLost ∧ (t.clip c).openSeg = none ∧
        (t.feed f).state = .lost ∧ (t.feed f).clip = none ∧ (t.feed f).pending = none ∧
        (t.feed f).starved = (s.feed f).starved ∧ t.ring f = [] ∧ t.contextsOf f = [] ∧
        t.flagsOf f = s.flagsOf f ||| 0x01 ∧ (∀ d : ClipNo, d ≠ c → t.clip d = s.clip d) ∧
        OtherFeedsKept f s t ∧
        t = { s with
          feeds := t.feeds, clips := t.clips, contexts := t.contexts, rings := t.rings,
          handedUnits := t.handedUnits, handedFrames := t.handedFrames, smc := t.smc, sw := t.sw,
          mu := t.mu, nextSerial := t.nextSerial, fw := { s.fw with losses := s.fw.losses.erase f } }

/-! ### Management -/

/-- Every request that the MU takes is answered with exactly one response, addressed to its origin and opening
with its tag and kind, which joins the transmit queue behind the notices of its effect or waits; every other
frame that joins is a notice of 12 bytes, with request tag 0 and a notice kind, to the notice destination. A
request answered with anything but DONE changes nothing and forms no notice, and its response carries no data
(R158, R159, R164, R173). The checks of R159 that every kind shares give the result in their order: a kind
value that the table of R173 does not hold is BAD_VALUE, and so is a body too short for its kind; then a feed
number above 31 or a clip number above 63 is NOT_FOUND, and a GET COUNTERS is BAD_VALUE where its scope byte
is neither 0 nor 1 and NOT_FOUND where that is 1 and its feed number is above 31. That a request whose
response waits stays in the request queue is the model's choice (assumption log 34). -/
def Obligations.EveryRequestIsAnsweredOnce : Prop :=
  ∀ (r : Request) (rs : List Request) (s : State),
    ReadyFor (RequestKind.ofCode r.kind) r rs s → MuBounded s →
    ∃ (t : State) (x : TxFrame) (res : Result) (data : List Byte) (notices : List TxFrame),
      exec (RequestKind.ofCode r.kind).row s = .next t ∧ x.dst = r.origin ∧
      x.body = be 2 r.tag.toNat ++ be 2 r.kind.toNat ++ [BitVec.ofNat 8 res.code] ++ data ∧
      (∀ n ∈ notices, n.body.length = 12 ∧ field 0 2 n.body = 0 ∧ 0x0081 ≤ field 2 2 n.body ∧
        field 2 2 n.body ≤ 0x0087 ∧ s.mu.origins.head? = some n.dst) ∧
      ((t.mu.tx = s.mu.tx ++ notices ++ [x] ∧ t.mu.requests = rs ∧ t.mu.waiting = none) ∨
        (t.mu.tx = s.mu.tx ++ notices ∧ t.mu.tx.length = 16 ∧ t.mu.requests = r :: rs ∧
          ∃ reset, t.mu.waiting = some ⟨x, reset⟩)) ∧
      (res ≠ .done → data = [] ∧ notices = [] ∧
        { t with mu := { t.mu with
          tx := s.mu.tx, requests := r :: rs, waiting := none, joined := s.mu.joined } } = s) ∧
      let kind := r.kind.toNat
      let number := field 0 1 r.body
      (kind = 0 ∨ 0x12 < kind ∨ 4 + r.body.length < lengthOfKind r → res = .badValue) ∧
      (lengthOfKind r ≤ 4 + r.body.length →
        (1 ≤ kind → kind ≤ 6 → 31 < number → res = .notFound) ∧
        (7 ≤ kind → kind ≤ 9 → 63 < number → res = .notFound) ∧
        (kind = 0x11 → 1 < number → res = .badValue) ∧
        (kind = 0x11 → number = 1 → 31 < field 1 1 r.body → res = .notFound))

/-- GET FEED, GET CLIP, GET STATUS, GET WATCH outside a sweep, and GET COUNTERS without clear are
answered DONE with the values of R175 as they stand and change nothing; GET WATCH during a sweep is
BUSY (R18, R98, R161, R162, R153). The data of each response has the length and each value the offset, width
and code of R175, with the 59 configuration bytes of R173 and the flag snapshot of R174; a clip's publication
position is that of R98, and QUEUED is the one whose INDEX write is in the write queue. That a record whose
last piece has still to leave counts in the record store is the model's reading (assumption log 29). -/
def Obligations.GetRequestsReportAndChangeNothing : Prop :=
  (∀ (r : Request) (rs : List Request) (s : State), TxRoomFor 1 s →
    (∀ f : FeedNo, ReadyFor .getFeed r rs s → 1 ≤ r.body.length → field 0 1 r.body = f.val →
      exec .getFeed s = .next (responded r rs .done (feedData (s.feed f)) s)) ∧
    (∀ c : ClipNo, ReadyFor .getClip r rs s → 1 ≤ r.body.length → field 0 1 r.body = c.val →
      exec .getClip s = .next (responded r rs .done (clipData c (s.clip c)) s)) ∧
    (ReadyFor .getStatus r rs s →
      exec .getStatus s = .next (responded r rs .done (statusData s) s)) ∧
    (ReadyFor .getWatch r rs s →
      exec .getWatch s = .next (if s.fw.sweep.isSome then responded r rs .busy [] s
        else responded r rs .done (watchData s) s)) ∧
    (ReadyFor .getCounters r rs s → 3 ≤ r.body.length → field 2 1 r.body = 0 →
      (field 0 1 r.body = 0 →
        exec .getCounters s = .next (responded r rs .done (deviceCounterBytes s) s)) ∧
      ∀ f : FeedNo, field 0 1 r.body = 1 → field 1 1 r.body = f.val →
        exec .getCounters s = .next (responded r rs .done (s.feed f).counters.bytes s))) ∧
  (∀ e : Feed,
    let d := feedData e
    d.length = 75 ∧ ConfigAt e.cfg d ∧ field 59 1 d = (if e.pending.isSome then 1 else 0) ∧
      (∀ v ∈ e.pending, StagedAt 60 v d) ∧ (e.pending = none → field 60 6 d = 0) ∧
      field 66 1 d = (match e.state with
        | .off => 0 | .idle => 1 | .recording => 2 | .stalled => 3 | .lost => 4) ∧
      OptAt 67 1 (e.clip.map Fin.val) d ∧ field 69 4 d = e.arrival.toNat ∧
      field 73 1 d = e.starved % 2 ^ 8 ∧ field 74 1 d = (if e.throttled then 1 else 0)) ∧
  (∀ (c : ClipNo) (k : Clip),
    let d := clipData c k
    d.length = 107 ∧ field 0 1 d = c.val ∧ field 1 1 d = k.feed.val ∧
      field 2 1 d = (match k.state with
        | .free => 0 | .opened => 1 | .recording => 2 | .draining => 3 | .closed => 4 | .failed => 5) ∧
      field 3 4 d = k.essenceHandle.toNat ∧ field 7 4 d = k.browseHandle.toNat ∧
      field 11 4 d = k.indexHandle.toNat ∧ OptAt 15 6 (k.origin.map BitVec.toNat) d ∧
      field 22 4 d = k.startLabel % 2 ^ 32 ∧ field 26 4 d = k.placed % 2 ^ 32 ∧
      field 30 4 d = k.essence % 2 ^ 32 ∧ field 34 4 d = k.repeats % 2 ^ 32 ∧
      field 38 4 d = k.voids % 2 ^ 32 ∧ field 42 4 d = k.picks % 2 ^ 32 ∧
      field 46 4 d = k.holes % 2 ^ 32 ∧ field 50 8 d = k.bytes % 2 ^ 64 ∧
      field 58 4 d = k.segsClosed % 2 ^ 32 ∧ field 62 4 d = k.records % 2 ^ 32 ∧
      field 66 4 d = k.frontier % 2 ^ 32 ∧
      field 70 1 d = (match k.endReason with
        | none => 0 | some .stopped => 1 | some .limit => 2 | some .discontinuity => 3
        | some .sourceLost => 4 | some .failed => 5) ∧
      StagedAt 71 k.working d ∧ field 77 1 d = (if k.openSeg.isSome then 1 else 0) ∧
      (k.openSeg = none → field 78 20 d = 0) ∧
      (∀ g ∈ k.openSeg, field 78 4 d = g.number % 2 ^ 32 ∧ field 82 4 d = g.first % 2 ^ 32 ∧
        field 86 2 d = g.frames % 2 ^ 16 ∧ field 88 8 d = g.bytes % 2 ^ 64 ∧
        field 96 1 d = g.runs.length % 2 ^ 8 ∧ field 97 1 d = g.holes.length % 2 ^ 8) ∧
      field 98 4 d = k.closed.length % 2 ^ 32 ∧
      field 102 1 d = (match k.closed with
        | [] => 0
        | g :: _ => if g.unanswered ≠ [] then 1 else if g.handed then 3 else 2) ∧
      field 103 4 d = (match k.closed with | [] => 0 | g :: _ => g.unanswered.length % 2 ^ 32)) ∧
  (∀ (c : ClipNo) (s : State), PublicationInOrder s →
    (field 102 1 (clipData c (s.clip c)) = 3 ↔
      (s.clip c).closed ≠ [] ∧ ∃ e ∈ s.sw.queue, e.cls = .index ∧ e.clip = c)) ∧
  (∀ s : State,
    let d := statusData s
    d.length = 52 ∧ d.take 36 = flagSnapshot s ∧ field 0 1 d = s.mu.devFlags.toNat ∧
      field 1 1 d = s.sw.records.index.toNat ∧ field 2 1 d = s.sw.records.essence.toNat ∧
      field 3 1 d = s.sw.records.browse.toNat ∧
      (∀ f : FeedNo, field (4 + f.val) 1 d = (s.flagsOf f).toNat) ∧
      field 36 4 d = s.smc.occupancy % 2 ^ 32 ∧ field 40 1 d = s.smc.level % 2 ^ 8 ∧
      (∀ x ∈ [(41, s.smc.pressure), (42, s.storCarrier), (43, s.holdLine),
          (44, s.sw.settings.peer.isSome), (45, s.sw.paused.index), (46, s.sw.paused.essence),
          (47, s.sw.paused.browse)], field x.1 1 d = (if x.2 then 1 else 0)) ∧
      field 48 4 d = (((List.finRange 64).map (fun c => (s.clip c).closed.length)).sum +
        (s.sw.late.filter (fun x => x.2 = .record)).length) % 2 ^ 32) ∧
  (∀ s : State,
    let d := watchData s
    d.length = 2 + 15 * s.fw.sequence.length ∧ field 0 1 d = s.fw.period % 2 ^ 8 ∧
      field 1 1 d = s.fw.sequence.length % 2 ^ 8 ∧
      ∀ (i : Nat) (f : FeedNo), s.fw.sequence[i]? = some f →
        field (2 + 15 * i) 1 d = f.val ∧ field (3 + 15 * i) 4 d = (s.watchEntry f).bytes.toNat ∧
        field (7 + 15 * i) 1 d = (match (s.watchEntry f).verdict with
          | .noVerdict => 0 | .normal => 1 | .starved => 2 | .runaway => 3) ∧
        OptAt (8 + 15 * i) 6 ((s.watchEntry f).time.map BitVec.toNat) d ∧
        field (15 + 15 * i) 1 d = (s.feed f).starved % 2 ^ 8 ∧
        field (16 + 15 * i) 1 d = (if (s.feed f).throttled then 1 else 0)) ∧
  (∀ s : State,
    let ofClass := fun k : ClassCounters =>
      [k.queued, k.sends, k.acknowledged, k.busy, k.fault, k.timeouts, k.aborts, k.removed]
    CountersAt
      ([s.port.damaged, s.port.foreign, s.port.truncated, s.port.unknownClass, s.port.badCheck,
          s.port.management, s.port.unmatched, s.smc.raises, s.fw.sweeps, s.bu.counters.shedPressure,
          s.bu.counters.shedQueueFull, s.bu.counters.shedNoBlocks, s.bu.counters.shedShare,
          s.bu.counters.delivered, s.bu.counters.discarded, s.bu.counters.unlisted] ++
        ofClass s.sw.counters.index ++ ofClass s.sw.counters.essence ++ ofClass s.sw.counters.browse ++
        [s.sw.stray, s.sw.readies, s.sw.foreign, s.mu.refusedOrigin, s.mu.malformedRequests,
          s.mu.requestsDropped, s.mu.noticesUnsent])
      (deviceCounterBytes s)) ∧
  ∀ k : FeedCounters,
    CountersAt [k.unitsReceived, k.badCheck, k.notRecording, k.throttled, k.malformed, k.duplicate,
      k.incomplete, k.noRoom, k.late, k.duplicateFrame, k.offGrid, k.overrun] k.bytes

/-- GET COUNTERS with clear answers with the values it read and sets exactly those counters to 0
(R162). That a clear byte which is neither 0 nor 1 is BAD_VALUE is the model's reading (assumption log 16). -/
def Obligations.ClearedCountersAreTheOnesRead : Prop :=
  ∀ (r : Request) (rs : List Request) (s : State), ReadyFor .getCounters r rs s → TxRoomFor 1 s →
    3 ≤ r.body.length →
    (1 < field 2 1 r.body → (field 0 1 r.body = 0 ∨ (field 0 1 r.body = 1 ∧ field 1 1 r.body < 32)) →
      exec .getCounters s = .next (responded r rs .badValue [] s)) ∧
    (field 2 1 r.body = 1 → ∀ f : FeedNo, field 0 1 r.body = 1 → field 1 1 r.body = f.val →
      exec .getCounters s = .next (responded r rs .done (s.feed f).counters.bytes
        (modFeed f (fun e => { e with counters := ⟨0, 0, 0, 0, 0, 0, 0, 0, 0, 0, 0, 0⟩ }) s))) ∧
    (field 2 1 r.body = 1 → field 0 1 r.body = 0 → ∃ t : State,
      exec .getCounters s = .next (responded r rs .done (deviceCounterBytes s) t) ∧
      deviceCounterBytes t = List.replicate 188 0 ∧
      t = { s with
        port := t.port
        smc := { s.smc with raises := 0 }
        fw := { s.fw with sweeps := 0 }
        bu := { s.bu with counters := t.bu.counters }
        sw := { s.sw with counters := t.sw.counters, stray := 0, readies := 0, foreign := 0 }
        mu := { s.mu with
          refusedOrigin := 0, malformedRequests := 0, requestsDropped := 0, noticesUnsent := 0 } })

/-- SET FEED: refused with STATE in RECORDING and LOST, whatever the 59 bytes of its configuration; in OFF, IDLE and STALLED it is refused with
BAD_VALUE where a field or a code byte is out of range, and otherwise replaces the whole configuration and
nothing of the runtime part, but for a key held by another entry outside OFF, which an IDLE or STALLED
entry is refused with DUPLICATE (R3, R4). A STALLED feed then tries to open a clip under the new
configuration: on the lowest-numbered FREE record the feed goes to RECORDING, and with none, or no handles,
it stays STALLED (R14). -/
def Obligations.SetFeedReplacesTheConfiguration : Prop :=
  (∀ (r : Request) (rs : List Request) (f : FeedNo) (cfg : FeedConfig) (extra : List Byte) (s : State),
    ReadyFor .setFeed r rs s → TxRoomFor 1 s →
    r.body = be 1 f.val ++ configBytes cfg ++ extra → cfg.valid = true →
    let clash := ∃ g : FeedNo, g ≠ f ∧ (s.feed g).state ≠ .off ∧ (s.feed g).cfg.tag = cfg.tag ∧
      (s.feed g).cfg.origin = cfg.origin
    let written := modFeed f (fun e => { e with cfg := cfg }) s
    ((s.feed f).state = .off → exec .setFeed s = .next (responded r rs .done [] written)) ∧
    ((s.feed f).state = .idle ∨ (s.feed f).state = .stalled → clash →
      exec .setFeed s = .next (responded r rs .duplicate [] s)) ∧
    ((s.feed f).state = .idle → ¬clash →
      exec .setFeed s = .next (responded r rs .done [] written)) ∧
    ((s.feed f).state = .stalled → ¬clash →
      (openable f written = none → exec .setFeed s = .next (responded r rs .done [] written)) ∧
      ∀ c : ClipNo, openable f written = some c → TxRoomFor 3 s →
        ∃ t : State, exec .setFeed s = .next t ∧ (t.feed f).state = .recording ∧
          (t.feed f).clip = some c ∧ (t.feed f).cfg = { cfg with
            handleNext := if cfg.handleNext.toNat = 4294967293 then 4294967295
              else cfg.handleNext + 3 } ∧
          (t.clip c).state = .opened ∧ (t.clip c).feed = f ∧ (t.clip c).working = cfg.staged ∧
          (t.clip c).essenceHandle = cfg.handleNext ∧
          (t.clip c).startLabel = labelCount cfg.period cfg.startLabel ∧
          (∀ d : ClipNo, d ≠ c → t.clip d = s.clip d) ∧ OtherFeedsKept f s t ∧
          t.mu.requests = rs ∧ t.mu.tx.getLast? = some (responseTo r .done [] s) ∧
          t = { s with feeds := t.feeds, clips := t.clips, mu := t.mu })) ∧
  (∀ (r : Request) (rs : List Request) (f : FeedNo) (bytes : List Byte) (s : State),
    ReadyFor .setFeed r rs s → TxRoomFor 1 s → r.body = be 1 f.val ++ bytes → 59 ≤ bytes.length →
    (s.feed f).state = .recording ∨ (s.feed f).state = .lost →
    exec .setFeed s = .next (responded r rs .state [] s)) ∧
  ∀ (r : Request) (rs : List Request) (f : FeedNo) (bytes : List Byte) (s : State),
    ReadyFor .setFeed r rs s → TxRoomFor 1 s → r.body = be 1 f.val ++ bytes → 59 ≤ bytes.length →
    (s.feed f).state = .off ∨ (s.feed f).state = .idle ∨ (s.feed f).state = .stalled →
    (∃ (cfg : FeedConfig) (extra : List Byte), cfg.FitsItsBytes ∧ cfg.valid = false ∧
        bytes = configBytes cfg ++ extra) ∨
      1 < field 24 1 bytes ∨ 1 < field 29 1 bytes ∨ 2 < field 30 1 bytes ∨ 1 < field 34 1 bytes ∨
      3 < field 47 1 bytes ∨ 1 < field 58 1 bytes →
    exec .setFeed s = .next (responded r rs .badValue [] s)

/-- ENABLE FEED takes an entry from OFF to IDLE with its arrival byte count at 0; units with its tag and
origin are matched to it from then on. Outside OFF it is refused with STATE, and in OFF a key held by
another entry outside OFF is refused with DUPLICATE (R10). -/
def Obligations.EnableFeedStartsMatching : Prop :=
  ∀ (r : Request) (rs : List Request) (f : FeedNo) (s : State), ReadyFor .enableFeed r rs s →
    TxRoomFor 2 s → 1 ≤ r.body.length → field 0 1 r.body = f.val →
    let clash := ∃ g : FeedNo, g ≠ f ∧ (s.feed g).state ≠ .off ∧
      (s.feed g).cfg.tag = (s.feed f).cfg.tag ∧ (s.feed g).cfg.origin = (s.feed f).cfg.origin
    ((s.feed f).state ≠ .off → exec .enableFeed s = .next (responded r rs .state [] s)) ∧
    ((s.feed f).state = .off → clash →
      exec .enableFeed s = .next (responded r rs .duplicate [] s)) ∧
    ((s.feed f).state = .off → ¬clash →
      ∃ t : State, exec .enableFeed s = .next t ∧
        t.feed f = { s.feed f with state := .idle, arrival := 0 } ∧
        matchFeed (s.feed f).cfg.tag (s.feed f).cfg.origin t = some f ∧
        OtherFeedsKept f s t ∧ t.flagsOf f = s.flagsOf f ||| 0x01 ∧
        t.mu.requests = rs ∧ t.mu.tx.getLast? = some (responseTo r .done [] s) ∧
        t = { s with feeds := t.feeds, mu := t.mu })

/-- DISABLE FEED takes a feed from any state to OFF: its contexts and ring are dropped, its reductions
removed and its running lanes marked, its clip ends STOPPED, its runtime fields are cleared, and of its
status flags only STATE_CHANGED is set; configuration but for the applied staged set is kept, and no
other feed changes. In OFF it is answered DONE and changes nothing (R17, R7, R107, R153). -/
def Obligations.DisableFeedTakesTheFeedOff : Prop :=
  ∀ (r : Request) (rs : List Request) (f : FeedNo) (s : State), ReadyFor .disableFeed r rs s →
    1 ≤ r.body.length → field 0 1 r.body = f.val →
    ((s.feed f).state = .off → TxRoomFor 1 s →
      exec .disableFeed s = .next (responded r rs .done [] s)) ∧
    ((s.feed f).state ≠ .off → OnlyRing f s → storeCount s < 4096 →
      (∀ c ∈ (s.feed f).clip, (s.clip c).feed = f ∧ (s.clip c).openSeg.isSome = true) →
      ((s.feed f).clip = none → (s.feed f).pending = none) →
      ∃ t : State, exec .disableFeed s = .next t ∧
        (t.feed f).state = .off ∧ (t.feed f).clip = none ∧ (t.feed f).arrival = 0 ∧
        (t.feed f).starved = 0 ∧ (t.feed f).throttled = false ∧ (t.feed f).pending = none ∧
        (t.feed f).cfg =
          { (s.feed f).cfg with staged := (s.feed f).pending.getD (s.feed f).cfg.staged } ∧
        t.contextsOf f = [] ∧ t.ring f = [] ∧ t.flagsOf f = 0x01 ∧
        t.watchEntry f = ⟨0, .noVerdict, none⟩ ∧
        (∀ x ∈ t.bu.queue, x.feed ≠ f) ∧
        (∀ st ∈ t.bu.step, ∀ x ∈ st.lanes, x.feed = f → x.discard = true) ∧
        (∀ c ∈ (s.feed f).clip, (t.clip c).state = .draining ∧
          (t.clip c).endReason = some .stopped ∧ (t.clip c).openSeg = none) ∧
        OtherFeedsKept f s t ∧
        (∀ d : ClipNo, (s.feed f).clip ≠ some d → t.clip d = s.clip d) ∧
        t = { s with
          feeds := t.feeds, clips := t.clips, contexts := t.contexts, rings := t.rings,
          handedUnits := t.handedUnits, handedFrames := t.handedFrames, smc := t.smc,
          placed := t.placed, bu := t.bu, sw := t.sw, mu := t.mu, nextSerial := t.nextSerial,
          fw := { s.fw with table := t.fw.table } })

/-- STAGE FEED: with a browse mode code above 2, or another value out of the ranges of section 1.2, it is
BAD_VALUE in every feed state; for a clip in RECORDING the four values become the pending
set; for a clip in OPEN they are written into the entry and the clip's working values with the
accumulator at bd - bn; otherwise they are written into the entry (R6). -/
def Obligations.StageFeedWaitsForARecordingClip : Prop :=
  (∀ (r : Request) (rs : List Request) (s : State), ReadyFor .stageFeed r rs s → TxRoomFor 1 s →
    7 ≤ r.body.length → field 0 1 r.body < 32 →
    2 < field 1 1 r.body ∨ field 2 1 r.body = 0 ∨ field 3 1 r.body < field 2 1 r.body ∨
      60 < field 3 1 r.body ∨ field 4 2 r.body = 0 ∨ 1024 < field 4 2 r.body ∨ 250 < field 6 1 r.body →
    exec .stageFeed s = .next (responded r rs .badValue [] s)) ∧
  ∀ (r : Request) (rs : List Request) (f : FeedNo) (v : StagedSet) (extra : List Byte) (s : State),
    ReadyFor .stageFeed r rs s → TxRoomFor 1 s → v.bn < 256 → v.bd < 256 → v.segLen < 65536 →
    v.fillLimit < 256 → r.body = be 1 f.val ++ stagedBytes v ++ extra →
    let entry := modFeed f (fun e => { e with cfg := { e.cfg with staged := v } }) s
    (¬(1 ≤ v.bn ∧ v.bn ≤ v.bd ∧ v.bd ≤ 60 ∧ 1 ≤ v.segLen ∧ v.segLen ≤ 1024 ∧ v.fillLimit ≤ 250) →
      exec .stageFeed s = .next (responded r rs .badValue [] s)) ∧
    ((1 ≤ v.bn ∧ v.bn ≤ v.bd ∧ v.bd ≤ 60 ∧ 1 ≤ v.segLen ∧ v.segLen ≤ 1024 ∧ v.fillLimit ≤ 250) →
      ((s.feed f).state ≠ .recording →
        exec .stageFeed s = .next (responded r rs .done [] entry)) ∧
      ∀ c : ClipNo, (s.feed f).state = .recording → (s.feed f).clip = some c →
        ((s.clip c).state = .recording →
          exec .stageFeed s = .next (responded r rs .done []
            (modFeed f (fun e => { e with pending := some v }) s))) ∧
        ((s.clip c).state = .opened →
          exec .stageFeed s = .next (responded r rs .done []
            (modClip c (fun k =>
              { k with working := v, cursor := k.cursor.map (fun u => { u with acc := v.bd - v.bn }) })
              entry))))

/-- SET STORAGE with a value out of range is BAD_VALUE, whatever the window holds: a present byte above 1, an
ack timeout or a backoff interval of 0, a busy policy code above 2, or a retry limit above 7. With every value
in range it is BUSY while the window holds a write, and otherwise the settings are replaced at once and every
pause is cleared (R119, R173). -/
def Obligations.SetStorageReplacesTheSettings : Prop :=
  (∀ (r : Request) (rs : List Request) (s : State), ReadyFor .setStorage r rs s → TxRoomFor 1 s →
    21 ≤ r.body.length →
    1 < field 0 1 r.body ∨ field 13 1 r.body = 0 ∨ field 14 1 r.body = 0 ∨
      (∃ i, 15 ≤ i ∧ i < 18 ∧ 2 < field i 1 r.body) ∨ (∃ i, 18 ≤ i ∧ i < 21 ∧ 7 < field i 1 r.body) →
    exec .setStorage s = .next (responded r rs .badValue [] s)) ∧
  ∀ (r : Request) (rs : List Request) (v : StorageSettings) (extra : List Byte) (s : State),
    ReadyFor .setStorage r rs s → TxRoomFor 1 s → v.InRange → r.body = storageBody v ++ extra →
    (window s ≠ [] → exec .setStorage s = .next (responded r rs .busy [] s)) ∧
    (window s = [] → ∃ t : State, exec .setStorage s = .next t ∧ t.sw.settings = v ∧
      t.sw.paused = ⟨false, false, false⟩ ∧ t.sw.retired = s.sw.retired ∧
      t.sw.queue.map (·.serial) = s.sw.queue.map (·.serial) ∧
      t = { responded r rs .done [] s with sw := t.sw, nextSerial := t.nextSerial })

/-- SET DEVICE with a level of 0 to 3 and durations of 1 to 255 replaces the three settings; a changed
level judges occupancy at once against the new marks, and the same level leaves PRESSURE as it was
(R160, R145). -/
def Obligations.SetDeviceJudgesTheNewLevel : Prop :=
  ∀ (r : Request) (rs : List Request) (level a b : Nat) (extra : List Byte) (s : State),
    ReadyFor .setDevice r rs s → TxRoomFor 2 s → level < 256 → a < 256 → b < 256 →
    r.body = be 1 level ++ be 1 a ++ be 1 b ++ extra →
    (3 < level ∨ a = 0 ∨ b = 0 → exec .setDevice s = .next (responded r rs .badValue [] s)) ∧
    (level ≤ 3 → 1 ≤ a → 1 ≤ b →
      ∃ t : State, exec .setDevice s = .next t ∧ t.smc.level = level ∧ t.bu.durA = a ∧
        t.bu.durB = b ∧ t.bu.step = s.bu.step ∧ t.smc.occupancy = s.smc.occupancy ∧
        t.smc.pressure =
          (if level = s.smc.level then s.smc.pressure
          else if s.smc.pressure then decide (28672 + 8192 * level < s.smc.occupancy)
          else decide (32768 + 8192 * level ≤ s.smc.occupancy)) ∧
        t.smc.raises = (if s.smc.pressure = false ∧ t.smc.pressure = true then bump s.smc.raises
          else s.smc.raises) ∧
        t.mu.devFlags = s.mu.devFlags |||
          (if s.smc.pressure = t.smc.pressure then 0 else if t.smc.pressure then 0x01 else 0x02) ∧
        t.smc.holdings = s.smc.holdings ∧ t.bu.queue = s.bu.queue ∧
        t = { s with smc := t.smc, bu := t.bu, mu := t.mu } ∧ t.mu.requests = rs ∧
        t.mu.tx.getLast? =
          some (responseTo r .done [BitVec.ofNat 8 level, BitVec.ofNat 8 a, BitVec.ofNat 8 b] s))

/-- SET WATCH outside a sweep, with distinct feeds, replaces the sequence and the period: a dropped
feed, and every feed under period 0, loses its throttle, starved count and verdict; a listed feed's
arrival byte count is 0, and a newly listed one's starved count is 0; a period other than 0 starts from
this wall time. During a sweep it is BUSY, whatever feed numbers it lists, and outside one it is BAD_VALUE
where a number is above 31 or appears twice (R148); every period byte is in range. A count above 32 is
BAD_VALUE (R173); that it is during a sweep too is the model's reading (assumption log 15). -/
def Obligations.SetWatchReplacesTheSequence : Prop :=
  (∀ (r : Request) (rs : List Request) (s : State), ReadyFor .setWatch r rs s → TxRoomFor 1 s →
    let count := field 1 1 r.body
    let numbers := (r.body.drop 2).take count
    (32 < count → exec .setWatch s = .next (responded r rs .badValue [] s)) ∧
    (count ≤ 32 → 2 + count ≤ r.body.length → s.fw.sweep.isSome = true →
      exec .setWatch s = .next (responded r rs .busy [] s)) ∧
    (count ≤ 32 → 2 + count ≤ r.body.length → s.fw.sweep = none →
      (∃ b ∈ numbers, 31 < b.toNat) ∨ ¬numbers.Nodup →
      exec .setWatch s = .next (responded r rs .badValue [] s))) ∧
  ∀ (r : Request) (rs : List Request) (period : Nat) (seq : List FeedNo) (extra : List Byte)
    (s : State),
    ReadyFor .setWatch r rs s → TxRoomFor 1 s → period < 256 → seq.Nodup →
    r.body = watchBody period seq ++ extra →
    (s.fw.sweep.isSome = true → exec .setWatch s = .next (responded r rs .busy [] s)) ∧
    (s.fw.sweep = none →
      ∃ t : State, exec .setWatch s = .next t ∧ t.fw.sequence = seq ∧ t.fw.period = period ∧
        (period ≠ 0 → t.fw.base = s.wall ∧
          t.fw.nextExpiry = s.wall + BitVec.ofNat 48 (1200 * (10 * period))) ∧
        (∀ f : FeedNo,
          let dropped := period = 0 ∨ (f ∈ s.fw.sequence ∧ f ∉ seq)
          (t.feed f).throttled = (if dropped then false else (s.feed f).throttled) ∧
          (t.feed f).starved =
            (if dropped ∨ (f ∈ seq ∧ f ∉ s.fw.sequence) then 0 else (s.feed f).starved) ∧
          (t.feed f).arrival = (if f ∈ seq then 0 else (s.feed f).arrival) ∧
          t.watchEntry f = (if dropped then ⟨0, .noVerdict, none⟩ else s.watchEntry f) ∧
          (t.feed f).state = (s.feed f).state ∧ (t.feed f).cfg = (s.feed f).cfg ∧
          (t.feed f).clip = (s.feed f).clip ∧ (t.feed f).counters = (s.feed f).counters) ∧
        t = { responded r rs .done [] s with feeds := t.feeds, fw := t.fw } ∧
        t.fw.sweep = none ∧ t.fw.sweeps = s.fw.sweeps)

/-- SET ORIGINS of up to four addresses replaces the list and the contribution address at once; its own
response goes to the request's origin and carries the new address as its source; a count above 4 is BAD_VALUE,
and so is a body too short for the address and the list that its count names (R156, R159). -/
def Obligations.SetOriginsReplacesListAndAddress : Prop :=
  ∀ (r : Request) (rs : List Request) (s : State), ReadyFor .setOrigins r rs s → TxRoomFor 1 s →
    (4 < field 0 1 r.body ∨ r.body.length < 7 + 6 * field 0 1 r.body →
      exec .setOrigins s = .next (responded r rs .badValue [] s)) ∧
    ∀ (address : Addr) (origins : List Addr) (extra : List Byte), origins.length ≤ 4 →
      r.body = originsBody address origins ++ extra →
      exec .setOrigins s = .next { s with mu := { s.mu with
        origins := origins, address := address, requests := rs,
        tx := s.mu.tx ++
          [⟨r.origin, address, s.wall, be 2 r.tag.toNat ++ be 2 r.kind.toNat ++ [0x00]⟩],
        joined := none } }

/-- CLEAR STATUS clears exactly the flags that are set in its snapshot, laid out as R174 says, and
answers with the flags as they stand after it (R166). -/
def Obligations.ClearStatusClearsBySnapshot : Prop :=
  ∀ (r : Request) (rs : List Request) (s : State), ReadyFor .clearStatus r rs s → TxRoomFor 1 s →
    36 ≤ r.body.length →
    ∃ t : State, exec .clearStatus s = .next (responded r rs .done (flagSnapshot t) t) ∧
      (∀ i, i < 7 → t.mu.devFlags.getLsbD i =
        (s.mu.devFlags.getLsbD i && !(r.body.getD 0 0).getLsbD i)) ∧
      (∀ i, i < 5 →
        t.sw.records.index.getLsbD i =
          (s.sw.records.index.getLsbD i && !(r.body.getD 1 0).getLsbD i) ∧
        t.sw.records.essence.getLsbD i =
          (s.sw.records.essence.getLsbD i && !(r.body.getD 2 0).getLsbD i) ∧
        t.sw.records.browse.getLsbD i =
          (s.sw.records.browse.getLsbD i && !(r.body.getD 3 0).getLsbD i)) ∧
      (∀ f : FeedNo, ∀ i, i < 5 → (t.flagsOf f).getLsbD i =
        ((s.flagsOf f).getLsbD i && !(r.body.getD (4 + f.val) 0).getLsbD i)) ∧
      t = { s with
        mu := { s.mu with devFlags := t.mu.devFlags, feedFlags := t.mu.feedFlags }
        sw := { s.sw with records := t.sw.records } }

/-- A request of an unknown kind is answered BAD_VALUE and changes nothing else, and RESET DEVICE is
answered DONE, after which the reset is due (R159, R167). At a full transmit queue either response waits, and
the reset is not yet due (R158, R163, R167); that the request then keeps its place in the request queue is
the model's choice (assumption log 34). While a response waits the MU takes no request (R158); that it takes
none while a reset is due is the model's reading (log 9), and that a request's row then leaves the state is
its choice (log 4). -/
def Obligations.UnknownKindsAndResetDeviceAreAnswered : Prop :=
  (∀ (k : RequestKind) (s : State), s.mu.waiting.isSome = true ∨ s.mu.resetDue = true →
    exec k.row s = .next s) ∧
  ∀ (r : Request) (rs : List Request) (s : State),
    let waits := fun (res : Result) (reset : Bool) =>
      { s with mu := { s.mu with waiting := some ⟨responseTo r res [] s, reset⟩, joined := none } }
    (ReadyFor .unknown r rs s →
      (TxRoomFor 1 s → exec .unknownKindRequest s = .next (responded r rs .badValue [] s)) ∧
      (s.mu.tx.length = 16 → exec .unknownKindRequest s = .next (waits .badValue false))) ∧
    (ReadyFor .resetDevice r rs s →
      (TxRoomFor 1 s →
        exec .resetDevice s = .next
          { responded r rs .done [] s with
            mu := { (responded r rs .done [] s).mu with resetDue := true } }) ∧
      (s.mu.tx.length = 16 → exec .resetDevice s = .next (waits .done true)))

/-! ### Encodings -/

/-- The 59 configuration bytes of any valid configuration, whatever follows them, spell it again, and so
do the 21 fields' bytes of any storage settings in range: no field and no bit of the tables of section
1.2 and of R119 is dropped; each configuration field stands at its place in the order of section 1.2, at its
width and with its code (R173). An index record slot is 4,096 bytes with each field, fill run and hole at
the offset of section 10.4, and every other byte zero (R177). -/
def Obligations.ConfigurationsAndSettingsReadBack : Prop :=
  (∀ (c : FeedConfig) (extra : List Byte), c.valid = true →
    (configBytes c).length = 59 ∧ parseConfig (configBytes c ++ extra) = some c ∧
      ConfigAt c (configBytes c)) ∧
  (∀ (v : StorageSettings) (extra : List Byte), v.InRange →
    (storageBody v).length = 21 ∧ parseStorage (storageBody v ++ extra) = some v) ∧
  ∀ r : IndexRecord, r.runs.length ≤ 200 → r.holes.length ≤ 200 →
    r.slot.length = 4096 ∧ field 0 4 r.slot = r.number % 2 ^ 32 ∧
    field 4 4 r.slot = r.essenceHandle.toNat ∧ field 8 4 r.slot = r.browseHandle.toNat ∧
    field 12 4 r.slot = r.indexHandle.toNat ∧ field 16 4 r.slot = r.period % 2 ^ 32 ∧
    field 20 4 r.slot = r.browseBytes % 2 ^ 32 ∧ field 24 4 r.slot = r.first % 2 ^ 32 ∧
    field 28 4 r.slot = r.firstLabel % 2 ^ 32 ∧ field 32 8 r.slot = r.offset % 2 ^ 64 ∧
    field 40 8 r.slot = r.bytes % 2 ^ 64 ∧ field 48 4 r.slot = r.firstPick % 2 ^ 32 ∧
    field 52 2 r.slot = r.frames % 2 ^ 16 ∧ field 54 2 r.slot = r.picks % 2 ^ 16 ∧
    field 56 1 r.slot = (if r.final.isSome then 1 else 0) ∧
    field 57 1 r.slot = (match r.final with
      | none => 0 | some .stopped => 1 | some .limit => 2 | some .discontinuity => 3
      | some .sourceLost => 4 | some .failed => 5) ∧
    field 58 1 r.slot = r.runs.length ∧ field 59 1 r.slot = r.holes.length ∧
    (∀ i x, r.runs[i]? = some x → field (64 + 8 * i) 2 r.slot = x.start % 2 ^ 16 ∧
      field (66 + 8 * i) 2 r.slot = x.count % 2 ^ 16 ∧
      field (68 + 8 * i) 1 r.slot = (match x.kind with | .rep => 1 | .void => 2) ∧
      field (69 + 8 * i) 3 r.slot = 0) ∧
    (∀ i n, r.holes[i]? = some n → field (1664 + 4 * i) 4 r.slot = n % 2 ^ 32) ∧
    ∀ i, (60 ≤ i ∧ i < 64) ∨ (64 + 8 * r.runs.length ≤ i ∧ i < 1664) ∨
      (1664 + 4 * r.holes.length ≤ i ∧ i < 4096) → r.slot[i]? = some 0

/-! ### Invariants that every step keeps -/

/-- Every step keeps the sizes of the transmit queue, the request queue and the origin list, and the two
parts of the write queue; and a response waits only for a full transmit queue (R163). -/
def Obligations.EveryStepKeepsTheQueueBounds : Prop :=
  ∀ s t : State, step s = .next t →
    (MuBounded s → MuBounded t) ∧ (WriteQueueBounded s → WriteQueueBounded t)

/-- Every step keeps the outstanding window within 16 writes, no two of which hold the same ID. -/
def Obligations.EveryStepKeepsTheWindowSound : Prop :=
  ∀ s t : State, WindowSound s → step s = .next t → WindowSound t

/-- Every step keeps each feed within four contexts, of distinct stamps (R37, R41), and keeps the staging
rings, each feed's unplaced work, the placed frames and the staging memory in agreement (R57, R46, R115,
R142): a ring ascends within its depth from the clip's next index, and occupancy is the sum of the feeds'
holdings, the placed frames' blocks and the output blocks, within the pool. The second rests on the
invariants of the window and of the two tables, which have statements of their own. -/
def Obligations.EveryStepKeepsTheContextBounds : Prop :=
  ∀ s t : State, ContextsBounded s → step s = .next t →
    ContextsBounded t ∧ (StagingSound s → WindowSound s → FeedsAndClipsAgree s → StagingSound t)

/-- Every step keeps placed frames equal to essence, REPEAT and VOID frames in every record. -/
def Obligations.EveryStepKeepsTheClipCounts : Prop :=
  ∀ s t : State, ClipCountsAgree s → step s = .next t → ClipCountsAgree t

/-- Every step keeps publication in order: a clip has at most one INDEX write, that of its first closed
segment, whose ESSENCE writes are all answered; its segment numbers follow one another; and every ESSENCE
write in the queue is unanswered in the segment it names (R93, R94). It rests on the invariants of the
window, of the two tables and of the staging rings, which have statements of their own. -/
def Obligations.EveryStepKeepsPublicationInOrder : Prop :=
  ∀ s t : State, PublicationInOrder s → WindowSound s → FeedsAndClipsAgree s → StagingSound s →
    step s = .next t → PublicationInOrder t

/-- Every step keeps the Feed Table and the Clip Table in agreement and the keys of the entries outside
OFF distinct. -/
def Obligations.EveryStepKeepsFeedsAndClipsTogether : Prop :=
  ∀ s t : State, FeedsAndClipsAgree s → KeysDistinct s → step s = .next t →
    FeedsAndClipsAgree t ∧ KeysDistinct t

/-- Power-on reset meets every invariant: the bounds of the MU's queues, the write queue and the contexts, the
window, the clip counts, the order of publication, the agreement of feeds and clips, distinct keys, and the
staging invariant (R4, R19, R56, R81, R101, R118, R141, R147, R170). -/
def Obligations.ResetMeetsTheInvariants : Prop :=
  MuBounded State.reset ∧ WriteQueueBounded State.reset ∧ WindowSound State.reset ∧
    ContextsBounded State.reset ∧ ClipCountsAgree State.reset ∧
    PublicationInOrder State.reset ∧ FeedsAndClipsAgree State.reset ∧ KeysDistinct State.reset ∧
    StagingSound State.reset
end

