-- ==== Sys2Proof/Laws/State.lean ====
section
/-! SUPPORT. For each plain update of State, one rule per field: what the field reads after the update.
Every rule is true by rfl, or says what one place of a table reads after another was written. -/

namespace Sys2Proof.Machine

set_option Elab.async false

/-! ### modFeed -/

@[simp] theorem modFeed_wall (f : FeedNo) (g : Feed → Feed) (s : State) :
    (modFeed f g s).wall = s.wall := rfl

@[simp] theorem modFeed_resetLine (f : FeedNo) (g : Feed → Feed) (s : State) :
    (modFeed f g s).resetLine = s.resetLine := rfl

@[simp] theorem modFeed_contribCarrier (f : FeedNo) (g : Feed → Feed) (s : State) :
    (modFeed f g s).contribCarrier = s.contribCarrier := rfl

@[simp] theorem modFeed_storCarrier (f : FeedNo) (g : Feed → Feed) (s : State) :
    (modFeed f g s).storCarrier = s.storCarrier := rfl

@[simp] theorem modFeed_holdLine (f : FeedNo) (g : Feed → Feed) (s : State) :
    (modFeed f g s).holdLine = s.holdLine := rfl

@[simp] theorem modFeed_port (f : FeedNo) (g : Feed → Feed) (s : State) :
    (modFeed f g s).port = s.port := rfl

@[simp] theorem modFeed_handedUnits (f : FeedNo) (g : Feed → Feed) (s : State) :
    (modFeed f g s).handedUnits = s.handedUnits := rfl

@[simp] theorem modFeed_handedFrames (f : FeedNo) (g : Feed → Feed) (s : State) :
    (modFeed f g s).handedFrames = s.handedFrames := rfl

@[simp] theorem modFeed_contexts (f : FeedNo) (g : Feed → Feed) (s : State) :
    (modFeed f g s).contexts = s.contexts := rfl

@[simp] theorem modFeed_smc (f : FeedNo) (g : Feed → Feed) (s : State) :
    (modFeed f g s).smc = s.smc := rfl

@[simp] theorem modFeed_rings (f : FeedNo) (g : Feed → Feed) (s : State) :
    (modFeed f g s).rings = s.rings := rfl

@[simp] theorem modFeed_placed (f : FeedNo) (g : Feed → Feed) (s : State) :
    (modFeed f g s).placed = s.placed := rfl

@[simp] theorem modFeed_clips (f : FeedNo) (g : Feed → Feed) (s : State) :
    (modFeed f g s).clips = s.clips := rfl

@[simp] theorem modFeed_bu (f : FeedNo) (g : Feed → Feed) (s : State) :
    (modFeed f g s).bu = s.bu := rfl

@[simp] theorem modFeed_sw (f : FeedNo) (g : Feed → Feed) (s : State) :
    (modFeed f g s).sw = s.sw := rfl

@[simp] theorem modFeed_fw (f : FeedNo) (g : Feed → Feed) (s : State) :
    (modFeed f g s).fw = s.fw := rfl

@[simp] theorem modFeed_mu (f : FeedNo) (g : Feed → Feed) (s : State) :
    (modFeed f g s).mu = s.mu := rfl

@[simp] theorem modFeed_nextSerial (f : FeedNo) (g : Feed → Feed) (s : State) :
    (modFeed f g s).nextSerial = s.nextSerial := rfl

@[simp] theorem modFeed_pending (f : FeedNo) (g : Feed → Feed) (s : State) :
    (modFeed f g s).pending = s.pending := rfl

@[simp] theorem modFeed_feeds (f : FeedNo) (g : Feed → Feed) (s : State) :
    (modFeed f g s).feeds = s.feeds.set f (g (s.feed f)) := rfl

@[simp] theorem modFeed_clip (f : FeedNo) (g : Feed → Feed) (s : State) (x : ClipNo) :
    (modFeed f g s).clip x = s.clip x := rfl

@[simp] theorem modFeed_contextsOf (f : FeedNo) (g : Feed → Feed) (s : State) (x : FeedNo) :
    (modFeed f g s).contextsOf x = s.contextsOf x := rfl

@[simp] theorem modFeed_ring (f : FeedNo) (g : Feed → Feed) (s : State) (x : FeedNo) :
    (modFeed f g s).ring x = s.ring x := rfl

@[simp] theorem modFeed_holding (f : FeedNo) (g : Feed → Feed) (s : State) (x : FeedNo) :
    (modFeed f g s).holding x = s.holding x := rfl

@[simp] theorem modFeed_flagsOf (f : FeedNo) (g : Feed → Feed) (s : State) (x : FeedNo) :
    (modFeed f g s).flagsOf x = s.flagsOf x := rfl

@[simp] theorem modFeed_watchEntry (f : FeedNo) (g : Feed → Feed) (s : State) (x : FeedNo) :
    (modFeed f g s).watchEntry x = s.watchEntry x := rfl

/-! ### modClip -/

@[simp] theorem modClip_wall (c : ClipNo) (g : Clip → Clip) (s : State) :
    (modClip c g s).wall = s.wall := rfl

@[simp] theorem modClip_resetLine (c : ClipNo) (g : Clip → Clip) (s : State) :
    (modClip c g s).resetLine = s.resetLine := rfl

@[simp] theorem modClip_contribCarrier (c : ClipNo) (g : Clip → Clip) (s : State) :
    (modClip c g s).contribCarrier = s.contribCarrier := rfl

@[simp] theorem modClip_storCarrier (c : ClipNo) (g : Clip → Clip) (s : State) :
    (modClip c g s).storCarrier = s.storCarrier := rfl

@[simp] theorem modClip_holdLine (c : ClipNo) (g : Clip → Clip) (s : State) :
    (modClip c g s).holdLine = s.holdLine := rfl

@[simp] theorem modClip_feeds (c : ClipNo) (g : Clip → Clip) (s : State) :
    (modClip c g s).feeds = s.feeds := rfl

@[simp] theorem modClip_port (c : ClipNo) (g : Clip → Clip) (s : State) :
    (modClip c g s).port = s.port := rfl

@[simp] theorem modClip_handedUnits (c : ClipNo) (g : Clip → Clip) (s : State) :
    (modClip c g s).handedUnits = s.handedUnits := rfl

@[simp] theorem modClip_handedFrames (c : ClipNo) (g : Clip → Clip) (s : State) :
    (modClip c g s).handedFrames = s.handedFrames := rfl

@[simp] theorem modClip_contexts (c : ClipNo) (g : Clip → Clip) (s : State) :
    (modClip c g s).contexts = s.contexts := rfl

@[simp] theorem modClip_smc (c : ClipNo) (g : Clip → Clip) (s : State) :
    (modClip c g s).smc = s.smc := rfl

@[simp] theorem modClip_rings (c : ClipNo) (g : Clip → Clip) (s : State) :
    (modClip c g s).rings = s.rings := rfl

@[simp] theorem modClip_placed (c : ClipNo) (g : Clip → Clip) (s : State) :
    (modClip c g s).placed = s.placed := rfl

@[simp] theorem modClip_bu (c : ClipNo) (g : Clip → Clip) (s : State) :
    (modClip c g s).bu = s.bu := rfl

@[simp] theorem modClip_sw (c : ClipNo) (g : Clip → Clip) (s : State) :
    (modClip c g s).sw = s.sw := rfl

@[simp] theorem modClip_fw (c : ClipNo) (g : Clip → Clip) (s : State) :
    (modClip c g s).fw = s.fw := rfl

@[simp] theorem modClip_mu (c : ClipNo) (g : Clip → Clip) (s : State) :
    (modClip c g s).mu = s.mu := rfl

@[simp] theorem modClip_nextSerial (c : ClipNo) (g : Clip → Clip) (s : State) :
    (modClip c g s).nextSerial = s.nextSerial := rfl

@[simp] theorem modClip_pending (c : ClipNo) (g : Clip → Clip) (s : State) :
    (modClip c g s).pending = s.pending := rfl

@[simp] theorem modClip_clips (c : ClipNo) (g : Clip → Clip) (s : State) :
    (modClip c g s).clips = s.clips.set c (g (s.clip c)) := rfl

@[simp] theorem modClip_feed (c : ClipNo) (g : Clip → Clip) (s : State) (x : FeedNo) :
    (modClip c g s).feed x = s.feed x := rfl

@[simp] theorem modClip_contextsOf (c : ClipNo) (g : Clip → Clip) (s : State) (x : FeedNo) :
    (modClip c g s).contextsOf x = s.contextsOf x := rfl

@[simp] theorem modClip_ring (c : ClipNo) (g : Clip → Clip) (s : State) (x : FeedNo) :
    (modClip c g s).ring x = s.ring x := rfl

@[simp] theorem modClip_holding (c : ClipNo) (g : Clip → Clip) (s : State) (x : FeedNo) :
    (modClip c g s).holding x = s.holding x := rfl

@[simp] theorem modClip_flagsOf (c : ClipNo) (g : Clip → Clip) (s : State) (x : FeedNo) :
    (modClip c g s).flagsOf x = s.flagsOf x := rfl

@[simp] theorem modClip_watchEntry (c : ClipNo) (g : Clip → Clip) (s : State) (x : FeedNo) :
    (modClip c g s).watchEntry x = s.watchEntry x := rfl

/-! ### setContexts -/

@[simp] theorem setContexts_wall (f : FeedNo) (cs : List Context) (s : State) :
    (setContexts f cs s).wall = s.wall := rfl

@[simp] theorem setContexts_resetLine (f : FeedNo) (cs : List Context) (s : State) :
    (setContexts f cs s).resetLine = s.resetLine := rfl

@[simp] theorem setContexts_contribCarrier (f : FeedNo) (cs : List Context) (s : State) :
    (setContexts f cs s).contribCarrier = s.contribCarrier := rfl

@[simp] theorem setContexts_storCarrier (f : FeedNo) (cs : List Context) (s : State) :
    (setContexts f cs s).storCarrier = s.storCarrier := rfl

@[simp] theorem setContexts_holdLine (f : FeedNo) (cs : List Context) (s : State) :
    (setContexts f cs s).holdLine = s.holdLine := rfl

@[simp] theorem setContexts_feeds (f : FeedNo) (cs : List Context) (s : State) :
    (setContexts f cs s).feeds = s.feeds := rfl

@[simp] theorem setContexts_port (f : FeedNo) (cs : List Context) (s : State) :
    (setContexts f cs s).port = s.port := rfl

@[simp] theorem setContexts_handedUnits (f : FeedNo) (cs : List Context) (s : State) :
    (setContexts f cs s).handedUnits = s.handedUnits := rfl

@[simp] theorem setContexts_handedFrames (f : FeedNo) (cs : List Context) (s : State) :
    (setContexts f cs s).handedFrames = s.handedFrames := rfl

@[simp] theorem setContexts_smc (f : FeedNo) (cs : List Context) (s : State) :
    (setContexts f cs s).smc = s.smc := rfl

@[simp] theorem setContexts_rings (f : FeedNo) (cs : List Context) (s : State) :
    (setContexts f cs s).rings = s.rings := rfl

@[simp] theorem setContexts_placed (f : FeedNo) (cs : List Context) (s : State) :
    (setContexts f cs s).placed = s.placed := rfl

@[simp] theorem setContexts_clips (f : FeedNo) (cs : List Context) (s : State) :
    (setContexts f cs s).clips = s.clips := rfl

@[simp] theorem setContexts_bu (f : FeedNo) (cs : List Context) (s : State) :
    (setContexts f cs s).bu = s.bu := rfl

@[simp] theorem setContexts_sw (f : FeedNo) (cs : List Context) (s : State) :
    (setContexts f cs s).sw = s.sw := rfl

@[simp] theorem setContexts_fw (f : FeedNo) (cs : List Context) (s : State) :
    (setContexts f cs s).fw = s.fw := rfl

@[simp] theorem setContexts_mu (f : FeedNo) (cs : List Context) (s : State) :
    (setContexts f cs s).mu = s.mu := rfl

@[simp] theorem setContexts_nextSerial (f : FeedNo) (cs : List Context) (s : State) :
    (setContexts f cs s).nextSerial = s.nextSerial := rfl

@[simp] theorem setContexts_pending (f : FeedNo) (cs : List Context) (s : State) :
    (setContexts f cs s).pending = s.pending := rfl

@[simp] theorem setContexts_contexts (f : FeedNo) (cs : List Context) (s : State) :
    (setContexts f cs s).contexts = s.contexts.set f cs := rfl

@[simp] theorem setContexts_feed (f : FeedNo) (cs : List Context) (s : State) (x : FeedNo) :
    (setContexts f cs s).feed x = s.feed x := rfl

@[simp] theorem setContexts_clip (f : FeedNo) (cs : List Context) (s : State) (x : ClipNo) :
    (setContexts f cs s).clip x = s.clip x := rfl

@[simp] theorem setContexts_ring (f : FeedNo) (cs : List Context) (s : State) (x : FeedNo) :
    (setContexts f cs s).ring x = s.ring x := rfl

@[simp] theorem setContexts_holding (f : FeedNo) (cs : List Context) (s : State) (x : FeedNo) :
    (setContexts f cs s).holding x = s.holding x := rfl

@[simp] theorem setContexts_flagsOf (f : FeedNo) (cs : List Context) (s : State) (x : FeedNo) :
    (setContexts f cs s).flagsOf x = s.flagsOf x := rfl

@[simp] theorem setContexts_watchEntry (f : FeedNo) (cs : List Context) (s : State) (x : FeedNo) :
    (setContexts f cs s).watchEntry x = s.watchEntry x := rfl

/-! ### setRing -/

@[simp] theorem setRing_wall (f : FeedNo) (r : List RingEntry) (s : State) :
    (setRing f r s).wall = s.wall := rfl

@[simp] theorem setRing_resetLine (f : FeedNo) (r : List RingEntry) (s : State) :
    (setRing f r s).resetLine = s.resetLine := rfl

@[simp] theorem setRing_contribCarrier (f : FeedNo) (r : List RingEntry) (s : State) :
    (setRing f r s).contribCarrier = s.contribCarrier := rfl

@[simp] theorem setRing_storCarrier (f : FeedNo) (r : List RingEntry) (s : State) :
    (setRing f r s).storCarrier = s.storCarrier := rfl

@[simp] theorem setRing_holdLine (f : FeedNo) (r : List RingEntry) (s : State) :
    (setRing f r s).holdLine = s.holdLine := rfl

@[simp] theorem setRing_feeds (f : FeedNo) (r : List RingEntry) (s : State) :
    (setRing f r s).feeds = s.feeds := rfl

@[simp] theorem setRing_port (f : FeedNo) (r : List RingEntry) (s : State) :
    (setRing f r s).port = s.port := rfl

@[simp] theorem setRing_handedUnits (f : FeedNo) (r : List RingEntry) (s : State) :
    (setRing f r s).handedUnits = s.handedUnits := rfl

@[simp] theorem setRing_handedFrames (f : FeedNo) (r : List RingEntry) (s : State) :
    (setRing f r s).handedFrames = s.handedFrames := rfl

@[simp] theorem setRing_contexts (f : FeedNo) (r : List RingEntry) (s : State) :
    (setRing f r s).contexts = s.contexts := rfl

@[simp] theorem setRing_smc (f : FeedNo) (r : List RingEntry) (s : State) :
    (setRing f r s).smc = s.smc := rfl

@[simp] theorem setRing_placed (f : FeedNo) (r : List RingEntry) (s : State) :
    (setRing f r s).placed = s.placed := rfl

@[simp] theorem setRing_clips (f : FeedNo) (r : List RingEntry) (s : State) :
    (setRing f r s).clips = s.clips := rfl

@[simp] theorem setRing_bu (f : FeedNo) (r : List RingEntry) (s : State) :
    (setRing f r s).bu = s.bu := rfl

@[simp] theorem setRing_sw (f : FeedNo) (r : List RingEntry) (s : State) :
    (setRing f r s).sw = s.sw := rfl

@[simp] theorem setRing_fw (f : FeedNo) (r : List RingEntry) (s : State) :
    (setRing f r s).fw = s.fw := rfl

@[simp] theorem setRing_mu (f : FeedNo) (r : List RingEntry) (s : State) :
    (setRing f r s).mu = s.mu := rfl

@[simp] theorem setRing_nextSerial (f : FeedNo) (r : List RingEntry) (s : State) :
    (setRing f r s).nextSerial = s.nextSerial := rfl

@[simp] theorem setRing_pending (f : FeedNo) (r : List RingEntry) (s : State) :
    (setRing f r s).pending = s.pending := rfl

@[simp] theorem setRing_rings (f : FeedNo) (r : List RingEntry) (s : State) :
    (setRing f r s).rings = s.rings.set f r := rfl

@[simp] theorem setRing_feed (f : FeedNo) (r : List RingEntry) (s : State) (x : FeedNo) :
    (setRing f r s).feed x = s.feed x := rfl

@[simp] theorem setRing_clip (f : FeedNo) (r : List RingEntry) (s : State) (x : ClipNo) :
    (setRing f r s).clip x = s.clip x := rfl

@[simp] theorem setRing_contextsOf (f : FeedNo) (r : List RingEntry) (s : State) (x : FeedNo) :
    (setRing f r s).contextsOf x = s.contextsOf x := rfl

@[simp] theorem setRing_holding (f : FeedNo) (r : List RingEntry) (s : State) (x : FeedNo) :
    (setRing f r s).holding x = s.holding x := rfl

@[simp] theorem setRing_flagsOf (f : FeedNo) (r : List RingEntry) (s : State) (x : FeedNo) :
    (setRing f r s).flagsOf x = s.flagsOf x := rfl

@[simp] theorem setRing_watchEntry (f : FeedNo) (r : List RingEntry) (s : State) (x : FeedNo) :
    (setRing f r s).watchEntry x = s.watchEntry x := rfl

/-! ### setHolding -/

@[simp] theorem setHolding_wall (f : FeedNo) (n : Nat) (s : State) :
    (setHolding f n s).wall = s.wall := rfl

@[simp] theorem setHolding_resetLine (f : FeedNo) (n : Nat) (s : State) :
    (setHolding f n s).resetLine = s.resetLine := rfl

@[simp] theorem setHolding_contribCarrier (f : FeedNo) (n : Nat) (s : State) :
    (setHolding f n s).contribCarrier = s.contribCarrier := rfl

@[simp] theorem setHolding_storCarrier (f : FeedNo) (n : Nat) (s : State) :
    (setHolding f n s).storCarrier = s.storCarrier := rfl

@[simp] theorem setHolding_holdLine (f : FeedNo) (n : Nat) (s : State) :
    (setHolding f n s).holdLine = s.holdLine := rfl

@[simp] theorem setHolding_feeds (f : FeedNo) (n : Nat) (s : State) :
    (setHolding f n s).feeds = s.feeds := rfl

@[simp] theorem setHolding_port (f : FeedNo) (n : Nat) (s : State) :
    (setHolding f n s).port = s.port := rfl

@[simp] theorem setHolding_handedUnits (f : FeedNo) (n : Nat) (s : State) :
    (setHolding f n s).handedUnits = s.handedUnits := rfl

@[simp] theorem setHolding_handedFrames (f : FeedNo) (n : Nat) (s : State) :
    (setHolding f n s).handedFrames = s.handedFrames := rfl

@[simp] theorem setHolding_contexts (f : FeedNo) (n : Nat) (s : State) :
    (setHolding f n s).contexts = s.contexts := rfl

@[simp] theorem setHolding_smc_level (f : FeedNo) (n : Nat) (s : State) :
    (setHolding f n s).smc.level = s.smc.level := rfl

@[simp] theorem setHolding_smc_occupancy (f : FeedNo) (n : Nat) (s : State) :
    (setHolding f n s).smc.occupancy = s.smc.occupancy := rfl

@[simp] theorem setHolding_smc_pressure (f : FeedNo) (n : Nat) (s : State) :
    (setHolding f n s).smc.pressure = s.smc.pressure := rfl

@[simp] theorem setHolding_smc_raises (f : FeedNo) (n : Nat) (s : State) :
    (setHolding f n s).smc.raises = s.smc.raises := rfl

@[simp] theorem setHolding_rings (f : FeedNo) (n : Nat) (s : State) :
    (setHolding f n s).rings = s.rings := rfl

@[simp] theorem setHolding_placed (f : FeedNo) (n : Nat) (s : State) :
    (setHolding f n s).placed = s.placed := rfl

@[simp] theorem setHolding_clips (f : FeedNo) (n : Nat) (s : State) :
    (setHolding f n s).clips = s.clips := rfl

@[simp] theorem setHolding_bu (f : FeedNo) (n : Nat) (s : State) :
    (setHolding f n s).bu = s.bu := rfl

@[simp] theorem setHolding_sw (f : FeedNo) (n : Nat) (s : State) :
    (setHolding f n s).sw = s.sw := rfl

@[simp] theorem setHolding_fw (f : FeedNo) (n : Nat) (s : State) :
    (setHolding f n s).fw = s.fw := rfl

@[simp] theorem setHolding_mu (f : FeedNo) (n : Nat) (s : State) :
    (setHolding f n s).mu = s.mu := rfl

@[simp] theorem setHolding_nextSerial (f : FeedNo) (n : Nat) (s : State) :
    (setHolding f n s).nextSerial = s.nextSerial := rfl

@[simp] theorem setHolding_pending (f : FeedNo) (n : Nat) (s : State) :
    (setHolding f n s).pending = s.pending := rfl

@[simp] theorem setHolding_smc_holdings (f : FeedNo) (n : Nat) (s : State) :
    (setHolding f n s).smc.holdings = s.smc.holdings.set f n := rfl

@[simp] theorem setHolding_feed (f : FeedNo) (n : Nat) (s : State) (x : FeedNo) :
    (setHolding f n s).feed x = s.feed x := rfl

@[simp] theorem setHolding_clip (f : FeedNo) (n : Nat) (s : State) (x : ClipNo) :
    (setHolding f n s).clip x = s.clip x := rfl

@[simp] theorem setHolding_contextsOf (f : FeedNo) (n : Nat) (s : State) (x : FeedNo) :
    (setHolding f n s).contextsOf x = s.contextsOf x := rfl

@[simp] theorem setHolding_ring (f : FeedNo) (n : Nat) (s : State) (x : FeedNo) :
    (setHolding f n s).ring x = s.ring x := rfl

@[simp] theorem setHolding_flagsOf (f : FeedNo) (n : Nat) (s : State) (x : FeedNo) :
    (setHolding f n s).flagsOf x = s.flagsOf x := rfl

@[simp] theorem setHolding_watchEntry (f : FeedNo) (n : Nat) (s : State) (x : FeedNo) :
    (setHolding f n s).watchEntry x = s.watchEntry x := rfl

/-! ### setWatchEntry -/

@[simp] theorem setWatchEntry_wall (f : FeedNo) (e : WatchEntry) (s : State) :
    (setWatchEntry f e s).wall = s.wall := rfl

@[simp] theorem setWatchEntry_resetLine (f : FeedNo) (e : WatchEntry) (s : State) :
    (setWatchEntry f e s).resetLine = s.resetLine := rfl

@[simp] theorem setWatchEntry_contribCarrier (f : FeedNo) (e : WatchEntry) (s : State) :
    (setWatchEntry f e s).contribCarrier = s.contribCarrier := rfl

@[simp] theorem setWatchEntry_storCarrier (f : FeedNo) (e : WatchEntry) (s : State) :
    (setWatchEntry f e s).storCarrier = s.storCarrier := rfl

@[simp] theorem setWatchEntry_holdLine (f : FeedNo) (e : WatchEntry) (s : State) :
    (setWatchEntry f e s).holdLine = s.holdLine := rfl

@[simp] theorem setWatchEntry_feeds (f : FeedNo) (e : WatchEntry) (s : State) :
    (setWatchEntry f e s).feeds = s.feeds := rfl

@[simp] theorem setWatchEntry_port (f : FeedNo) (e : WatchEntry) (s : State) :
    (setWatchEntry f e s).port = s.port := rfl

@[simp] theorem setWatchEntry_handedUnits (f : FeedNo) (e : WatchEntry) (s : State) :
    (setWatchEntry f e s).handedUnits = s.handedUnits := rfl

@[simp] theorem setWatchEntry_handedFrames (f : FeedNo) (e : WatchEntry) (s : State) :
    (setWatchEntry f e s).handedFrames = s.handedFrames := rfl

@[simp] theorem setWatchEntry_contexts (f : FeedNo) (e : WatchEntry) (s : State) :
    (setWatchEntry f e s).contexts = s.contexts := rfl

@[simp] theorem setWatchEntry_smc (f : FeedNo) (e : WatchEntry) (s : State) :
    (setWatchEntry f e s).smc = s.smc := rfl

@[simp] theorem setWatchEntry_rings (f : FeedNo) (e : WatchEntry) (s : State) :
    (setWatchEntry f e s).rings = s.rings := rfl

@[simp] theorem setWatchEntry_placed (f : FeedNo) (e : WatchEntry) (s : State) :
    (setWatchEntry f e s).placed = s.placed := rfl

@[simp] theorem setWatchEntry_clips (f : FeedNo) (e : WatchEntry) (s : State) :
    (setWatchEntry f e s).clips = s.clips := rfl

@[simp] theorem setWatchEntry_bu (f : FeedNo) (e : WatchEntry) (s : State) :
    (setWatchEntry f e s).bu = s.bu := rfl

@[simp] theorem setWatchEntry_sw (f : FeedNo) (e : WatchEntry) (s : State) :
    (setWatchEntry f e s).sw = s.sw := rfl

@[simp] theorem setWatchEntry_fw_sequence (f : FeedNo) (e : WatchEntry) (s : State) :
    (setWatchEntry f e s).fw.sequence = s.fw.sequence := rfl

@[simp] theorem setWatchEntry_fw_period (f : FeedNo) (e : WatchEntry) (s : State) :
    (setWatchEntry f e s).fw.period = s.fw.period := rfl

@[simp] theorem setWatchEntry_fw_base (f : FeedNo) (e : WatchEntry) (s : State) :
    (setWatchEntry f e s).fw.base = s.fw.base := rfl

@[simp] theorem setWatchEntry_fw_nextExpiry (f : FeedNo) (e : WatchEntry) (s : State) :
    (setWatchEntry f e s).fw.nextExpiry = s.fw.nextExpiry := rfl

@[simp] theorem setWatchEntry_fw_sweep (f : FeedNo) (e : WatchEntry) (s : State) :
    (setWatchEntry f e s).fw.sweep = s.fw.sweep := rfl

@[simp] theorem setWatchEntry_fw_pacing (f : FeedNo) (e : WatchEntry) (s : State) :
    (setWatchEntry f e s).fw.pacing = s.fw.pacing := rfl

@[simp] theorem setWatchEntry_fw_losses (f : FeedNo) (e : WatchEntry) (s : State) :
    (setWatchEntry f e s).fw.losses = s.fw.losses := rfl

@[simp] theorem setWatchEntry_fw_sweeps (f : FeedNo) (e : WatchEntry) (s : State) :
    (setWatchEntry f e s).fw.sweeps = s.fw.sweeps := rfl

@[simp] theorem setWatchEntry_mu (f : FeedNo) (e : WatchEntry) (s : State) :
    (setWatchEntry f e s).mu = s.mu := rfl

@[simp] theorem setWatchEntry_nextSerial (f : FeedNo) (e : WatchEntry) (s : State) :
    (setWatchEntry f e s).nextSerial = s.nextSerial := rfl

@[simp] theorem setWatchEntry_pending (f : FeedNo) (e : WatchEntry) (s : State) :
    (setWatchEntry f e s).pending = s.pending := rfl

@[simp] theorem setWatchEntry_fw_table (f : FeedNo) (e : WatchEntry) (s : State) :
    (setWatchEntry f e s).fw.table = s.fw.table.set f e := rfl

@[simp] theorem setWatchEntry_feed (f : FeedNo) (e : WatchEntry) (s : State) (x : FeedNo) :
    (setWatchEntry f e s).feed x = s.feed x := rfl

@[simp] theorem setWatchEntry_clip (f : FeedNo) (e : WatchEntry) (s : State) (x : ClipNo) :
    (setWatchEntry f e s).clip x = s.clip x := rfl

@[simp] theorem setWatchEntry_contextsOf (f : FeedNo) (e : WatchEntry) (s : State) (x : FeedNo) :
    (setWatchEntry f e s).contextsOf x = s.contextsOf x := rfl

@[simp] theorem setWatchEntry_ring (f : FeedNo) (e : WatchEntry) (s : State) (x : FeedNo) :
    (setWatchEntry f e s).ring x = s.ring x := rfl

@[simp] theorem setWatchEntry_holding (f : FeedNo) (e : WatchEntry) (s : State) (x : FeedNo) :
    (setWatchEntry f e s).holding x = s.holding x := rfl

@[simp] theorem setWatchEntry_flagsOf (f : FeedNo) (e : WatchEntry) (s : State) (x : FeedNo) :
    (setWatchEntry f e s).flagsOf x = s.flagsOf x := rfl

/-! ### countPort -/

@[simp] theorem countPort_wall (g : PortCounters → PortCounters) (s : State) :
    (countPort g s).wall = s.wall := rfl

@[simp] theorem countPort_resetLine (g : PortCounters → PortCounters) (s : State) :
    (countPort g s).resetLine = s.resetLine := rfl

@[simp] theorem countPort_contribCarrier (g : PortCounters → PortCounters) (s : State) :
    (countPort g s).contribCarrier = s.contribCarrier := rfl

@[simp] theorem countPort_storCarrier (g : PortCounters → PortCounters) (s : State) :
    (countPort g s).storCarrier = s.storCarrier := rfl

@[simp] theorem countPort_holdLine (g : PortCounters → PortCounters) (s : State) :
    (countPort g s).holdLine = s.holdLine := rfl

@[simp] theorem countPort_feeds (g : PortCounters → PortCounters) (s : State) :
    (countPort g s).feeds = s.feeds := rfl

@[simp] theorem countPort_handedUnits (g : PortCounters → PortCounters) (s : State) :
    (countPort g s).handedUnits = s.handedUnits := rfl

@[simp] theorem countPort_handedFrames (g : PortCounters → PortCounters) (s : State) :
    (countPort g s).handedFrames = s.handedFrames := rfl

@[simp] theorem countPort_contexts (g : PortCounters → PortCounters) (s : State) :
    (countPort g s).contexts = s.contexts := rfl

@[simp] theorem countPort_smc (g : PortCounters → PortCounters) (s : State) :
    (countPort g s).smc = s.smc := rfl

@[simp] theorem countPort_rings (g : PortCounters → PortCounters) (s : State) :
    (countPort g s).rings = s.rings := rfl

@[simp] theorem countPort_placed (g : PortCounters → PortCounters) (s : State) :
    (countPort g s).placed = s.placed := rfl

@[simp] theorem countPort_clips (g : PortCounters → PortCounters) (s : State) :
    (countPort g s).clips = s.clips := rfl

@[simp] theorem countPort_bu (g : PortCounters → PortCounters) (s : State) :
    (countPort g s).bu = s.bu := rfl

@[simp] theorem countPort_sw (g : PortCounters → PortCounters) (s : State) :
    (countPort g s).sw = s.sw := rfl

@[simp] theorem countPort_fw (g : PortCounters → PortCounters) (s : State) :
    (countPort g s).fw = s.fw := rfl

@[simp] theorem countPort_mu (g : PortCounters → PortCounters) (s : State) :
    (countPort g s).mu = s.mu := rfl

@[simp] theorem countPort_nextSerial (g : PortCounters → PortCounters) (s : State) :
    (countPort g s).nextSerial = s.nextSerial := rfl

@[simp] theorem countPort_pending (g : PortCounters → PortCounters) (s : State) :
    (countPort g s).pending = s.pending := rfl

@[simp] theorem countPort_port (g : PortCounters → PortCounters) (s : State) :
    (countPort g s).port = g s.port := rfl

@[simp] theorem countPort_feed (g : PortCounters → PortCounters) (s : State) (x : FeedNo) :
    (countPort g s).feed x = s.feed x := rfl

@[simp] theorem countPort_clip (g : PortCounters → PortCounters) (s : State) (x : ClipNo) :
    (countPort g s).clip x = s.clip x := rfl

@[simp] theorem countPort_contextsOf (g : PortCounters → PortCounters) (s : State) (x : FeedNo) :
    (countPort g s).contextsOf x = s.contextsOf x := rfl

@[simp] theorem countPort_ring (g : PortCounters → PortCounters) (s : State) (x : FeedNo) :
    (countPort g s).ring x = s.ring x := rfl

@[simp] theorem countPort_holding (g : PortCounters → PortCounters) (s : State) (x : FeedNo) :
    (countPort g s).holding x = s.holding x := rfl

@[simp] theorem countPort_flagsOf (g : PortCounters → PortCounters) (s : State) (x : FeedNo) :
    (countPort g s).flagsOf x = s.flagsOf x := rfl

@[simp] theorem countPort_watchEntry (g : PortCounters → PortCounters) (s : State) (x : FeedNo) :
    (countPort g s).watchEntry x = s.watchEntry x := rfl

/-! ### countBrowse -/

@[simp] theorem countBrowse_wall (g : BrowseCounters → BrowseCounters) (s : State) :
    (countBrowse g s).wall = s.wall := rfl

@[simp] theorem countBrowse_resetLine (g : BrowseCounters → BrowseCounters) (s : State) :
    (countBrowse g s).resetLine = s.resetLine := rfl

@[simp] theorem countBrowse_contribCarrier (g : BrowseCounters → BrowseCounters) (s : State) :
    (countBrowse g s).contribCarrier = s.contribCarrier := rfl

@[simp] theorem countBrowse_storCarrier (g : BrowseCounters → BrowseCounters) (s : State) :
    (countBrowse g s).storCarrier = s.storCarrier := rfl

@[simp] theorem countBrowse_holdLine (g : BrowseCounters → BrowseCounters) (s : State) :
    (countBrowse g s).holdLine = s.holdLine := rfl

@[simp] theorem countBrowse_feeds (g : BrowseCounters → BrowseCounters) (s : State) :
    (countBrowse g s).feeds = s.feeds := rfl

@[simp] theorem countBrowse_port (g : BrowseCounters → BrowseCounters) (s : State) :
    (countBrowse g s).port = s.port := rfl

@[simp] theorem countBrowse_handedUnits (g : BrowseCounters → BrowseCounters) (s : State) :
    (countBrowse g s).handedUnits = s.handedUnits := rfl

@[simp] theorem countBrowse_handedFrames (g : BrowseCounters → BrowseCounters) (s : State) :
    (countBrowse g s).handedFrames = s.handedFrames := rfl

@[simp] theorem countBrowse_contexts (g : BrowseCounters → BrowseCounters) (s : State) :
    (countBrowse g s).contexts = s.contexts := rfl

@[simp] theorem countBrowse_smc (g : BrowseCounters → BrowseCounters) (s : State) :
    (countBrowse g s).smc = s.smc := rfl

@[simp] theorem countBrowse_rings (g : BrowseCounters → BrowseCounters) (s : State) :
    (countBrowse g s).rings = s.rings := rfl

@[simp] theorem countBrowse_placed (g : BrowseCounters → BrowseCounters) (s : State) :
    (countBrowse g s).placed = s.placed := rfl

@[simp] theorem countBrowse_clips (g : BrowseCounters → BrowseCounters) (s : State) :
    (countBrowse g s).clips = s.clips := rfl

@[simp] theorem countBrowse_bu_queue (g : BrowseCounters → BrowseCounters) (s : State) :
    (countBrowse g s).bu.queue = s.bu.queue := rfl

@[simp] theorem countBrowse_bu_step (g : BrowseCounters → BrowseCounters) (s : State) :
    (countBrowse g s).bu.step = s.bu.step := rfl

@[simp] theorem countBrowse_bu_durA (g : BrowseCounters → BrowseCounters) (s : State) :
    (countBrowse g s).bu.durA = s.bu.durA := rfl

@[simp] theorem countBrowse_bu_durB (g : BrowseCounters → BrowseCounters) (s : State) :
    (countBrowse g s).bu.durB = s.bu.durB := rfl

@[simp] theorem countBrowse_bu_serial (g : BrowseCounters → BrowseCounters) (s : State) :
    (countBrowse g s).bu.serial = s.bu.serial := rfl

@[simp] theorem countBrowse_sw (g : BrowseCounters → BrowseCounters) (s : State) :
    (countBrowse g s).sw = s.sw := rfl

@[simp] theorem countBrowse_fw (g : BrowseCounters → BrowseCounters) (s : State) :
    (countBrowse g s).fw = s.fw := rfl

@[simp] theorem countBrowse_mu (g : BrowseCounters → BrowseCounters) (s : State) :
    (countBrowse g s).mu = s.mu := rfl

@[simp] theorem countBrowse_nextSerial (g : BrowseCounters → BrowseCounters) (s : State) :
    (countBrowse g s).nextSerial = s.nextSerial := rfl

@[simp] theorem countBrowse_pending (g : BrowseCounters → BrowseCounters) (s : State) :
    (countBrowse g s).pending = s.pending := rfl

@[simp] theorem countBrowse_bu_counters (g : BrowseCounters → BrowseCounters) (s : State) :
    (countBrowse g s).bu.counters = g s.bu.counters := rfl

@[simp] theorem countBrowse_feed (g : BrowseCounters → BrowseCounters) (s : State) (x : FeedNo) :
    (countBrowse g s).feed x = s.feed x := rfl

@[simp] theorem countBrowse_clip (g : BrowseCounters → BrowseCounters) (s : State) (x : ClipNo) :
    (countBrowse g s).clip x = s.clip x := rfl

@[simp] theorem countBrowse_contextsOf (g : BrowseCounters → BrowseCounters) (s : State) (x : FeedNo) :
    (countBrowse g s).contextsOf x = s.contextsOf x := rfl

@[simp] theorem countBrowse_ring (g : BrowseCounters → BrowseCounters) (s : State) (x : FeedNo) :
    (countBrowse g s).ring x = s.ring x := rfl

@[simp] theorem countBrowse_holding (g : BrowseCounters → BrowseCounters) (s : State) (x : FeedNo) :
    (countBrowse g s).holding x = s.holding x := rfl

@[simp] theorem countBrowse_flagsOf (g : BrowseCounters → BrowseCounters) (s : State) (x : FeedNo) :
    (countBrowse g s).flagsOf x = s.flagsOf x := rfl

@[simp] theorem countBrowse_watchEntry (g : BrowseCounters → BrowseCounters) (s : State) (x : FeedNo) :
    (countBrowse g s).watchEntry x = s.watchEntry x := rfl

/-! ### countClass -/

@[simp] theorem countClass_wall (cls : WriteClass) (g : ClassCounters → ClassCounters) (s : State) :
    (countClass cls g s).wall = s.wall := rfl

@[simp] theorem countClass_resetLine (cls : WriteClass) (g : ClassCounters → ClassCounters) (s : State) :
    (countClass cls g s).resetLine = s.resetLine := rfl

@[simp] theorem countClass_contribCarrier (cls : WriteClass) (g : ClassCounters → ClassCounters) (s : State) :
    (countClass cls g s).contribCarrier = s.contribCarrier := rfl

@[simp] theorem countClass_storCarrier (cls : WriteClass) (g : ClassCounters → ClassCounters) (s : State) :
    (countClass cls g s).storCarrier = s.storCarrier := rfl

@[simp] theorem countClass_holdLine (cls : WriteClass) (g : ClassCounters → ClassCounters) (s : State) :
    (countClass cls g s).holdLine = s.holdLine := rfl

@[simp] theorem countClass_feeds (cls : WriteClass) (g : ClassCounters → ClassCounters) (s : State) :
    (countClass cls g s).feeds = s.feeds := rfl

@[simp] theorem countClass_port (cls : WriteClass) (g : ClassCounters → ClassCounters) (s : State) :
    (countClass cls g s).port = s.port := rfl

@[simp] theorem countClass_handedUnits (cls : WriteClass) (g : ClassCounters → ClassCounters) (s : State) :
    (countClass cls g s).handedUnits = s.handedUnits := rfl

@[simp] theorem countClass_handedFrames (cls : WriteClass) (g : ClassCounters → ClassCounters) (s : State) :
    (countClass cls g s).handedFrames = s.handedFrames := rfl

@[simp] theorem countClass_contexts (cls : WriteClass) (g : ClassCounters → ClassCounters) (s : State) :
    (countClass cls g s).contexts = s.contexts := rfl

@[simp] theorem countClass_smc (cls : WriteClass) (g : ClassCounters → ClassCounters) (s : State) :
    (countClass cls g s).smc = s.smc := rfl

@[simp] theorem countClass_rings (cls : WriteClass) (g : ClassCounters → ClassCounters) (s : State) :
    (countClass cls g s).rings = s.rings := rfl

@[simp] theorem countClass_placed (cls : WriteClass) (g : ClassCounters → ClassCounters) (s : State) :
    (countClass cls g s).placed = s.placed := rfl

@[simp] theorem countClass_clips (cls : WriteClass) (g : ClassCounters → ClassCounters) (s : State) :
    (countClass cls g s).clips = s.clips := rfl

@[simp] theorem countClass_bu (cls : WriteClass) (g : ClassCounters → ClassCounters) (s : State) :
    (countClass cls g s).bu = s.bu := rfl

@[simp] theorem countClass_sw_settings (cls : WriteClass) (g : ClassCounters → ClassCounters) (s : State) :
    (countClass cls g s).sw.settings = s.sw.settings := rfl

@[simp] theorem countClass_sw_queue (cls : WriteClass) (g : ClassCounters → ClassCounters) (s : State) :
    (countClass cls g s).sw.queue = s.sw.queue := rfl

@[simp] theorem countClass_sw_portQueue (cls : WriteClass) (g : ClassCounters → ClassCounters) (s : State) :
    (countClass cls g s).sw.portQueue = s.sw.portQueue := rfl

@[simp] theorem countClass_sw_late (cls : WriteClass) (g : ClassCounters → ClassCounters) (s : State) :
    (countClass cls g s).sw.late = s.sw.late := rfl

@[simp] theorem countClass_sw_lastUsed (cls : WriteClass) (g : ClassCounters → ClassCounters) (s : State) :
    (countClass cls g s).sw.lastUsed = s.sw.lastUsed := rfl

@[simp] theorem countClass_sw_retired (cls : WriteClass) (g : ClassCounters → ClassCounters) (s : State) :
    (countClass cls g s).sw.retired = s.sw.retired := rfl

@[simp] theorem countClass_sw_paused (cls : WriteClass) (g : ClassCounters → ClassCounters) (s : State) :
    (countClass cls g s).sw.paused = s.sw.paused := rfl

@[simp] theorem countClass_sw_records (cls : WriteClass) (g : ClassCounters → ClassCounters) (s : State) :
    (countClass cls g s).sw.records = s.sw.records := rfl

@[simp] theorem countClass_sw_stray (cls : WriteClass) (g : ClassCounters → ClassCounters) (s : State) :
    (countClass cls g s).sw.stray = s.sw.stray := rfl

@[simp] theorem countClass_sw_readies (cls : WriteClass) (g : ClassCounters → ClassCounters) (s : State) :
    (countClass cls g s).sw.readies = s.sw.readies := rfl

@[simp] theorem countClass_sw_foreign (cls : WriteClass) (g : ClassCounters → ClassCounters) (s : State) :
    (countClass cls g s).sw.foreign = s.sw.foreign := rfl

@[simp] theorem countClass_sw_lastMessages (cls : WriteClass) (g : ClassCounters → ClassCounters) (s : State) :
    (countClass cls g s).sw.lastMessages = s.sw.lastMessages := rfl

@[simp] theorem countClass_fw (cls : WriteClass) (g : ClassCounters → ClassCounters) (s : State) :
    (countClass cls g s).fw = s.fw := rfl

@[simp] theorem countClass_mu (cls : WriteClass) (g : ClassCounters → ClassCounters) (s : State) :
    (countClass cls g s).mu = s.mu := rfl

@[simp] theorem countClass_nextSerial (cls : WriteClass) (g : ClassCounters → ClassCounters) (s : State) :
    (countClass cls g s).nextSerial = s.nextSerial := rfl

@[simp] theorem countClass_pending (cls : WriteClass) (g : ClassCounters → ClassCounters) (s : State) :
    (countClass cls g s).pending = s.pending := rfl

@[simp] theorem countClass_sw_counters (cls : WriteClass) (g : ClassCounters → ClassCounters) (s : State) :
    (countClass cls g s).sw.counters = s.sw.counters.modify cls g := rfl

@[simp] theorem countClass_feed (cls : WriteClass) (g : ClassCounters → ClassCounters) (s : State) (x : FeedNo) :
    (countClass cls g s).feed x = s.feed x := rfl

@[simp] theorem countClass_clip (cls : WriteClass) (g : ClassCounters → ClassCounters) (s : State) (x : ClipNo) :
    (countClass cls g s).clip x = s.clip x := rfl

@[simp] theorem countClass_contextsOf (cls : WriteClass) (g : ClassCounters → ClassCounters) (s : State) (x : FeedNo) :
    (countClass cls g s).contextsOf x = s.contextsOf x := rfl

@[simp] theorem countClass_ring (cls : WriteClass) (g : ClassCounters → ClassCounters) (s : State) (x : FeedNo) :
    (countClass cls g s).ring x = s.ring x := rfl

@[simp] theorem countClass_holding (cls : WriteClass) (g : ClassCounters → ClassCounters) (s : State) (x : FeedNo) :
    (countClass cls g s).holding x = s.holding x := rfl

@[simp] theorem countClass_flagsOf (cls : WriteClass) (g : ClassCounters → ClassCounters) (s : State) (x : FeedNo) :
    (countClass cls g s).flagsOf x = s.flagsOf x := rfl

@[simp] theorem countClass_watchEntry (cls : WriteClass) (g : ClassCounters → ClassCounters) (s : State) (x : FeedNo) :
    (countClass cls g s).watchEntry x = s.watchEntry x := rfl

/-! ### raiseDev -/

@[simp] theorem raiseDev_wall (d : DevFlag) (s : State) :
    (raiseDev d s).wall = s.wall := rfl

@[simp] theorem raiseDev_resetLine (d : DevFlag) (s : State) :
    (raiseDev d s).resetLine = s.resetLine := rfl

@[simp] theorem raiseDev_contribCarrier (d : DevFlag) (s : State) :
    (raiseDev d s).contribCarrier = s.contribCarrier := rfl

@[simp] theorem raiseDev_storCarrier (d : DevFlag) (s : State) :
    (raiseDev d s).storCarrier = s.storCarrier := rfl

@[simp] theorem raiseDev_holdLine (d : DevFlag) (s : State) :
    (raiseDev d s).holdLine = s.holdLine := rfl

@[simp] theorem raiseDev_feeds (d : DevFlag) (s : State) :
    (raiseDev d s).feeds = s.feeds := rfl

@[simp] theorem raiseDev_port (d : DevFlag) (s : State) :
    (raiseDev d s).port = s.port := rfl

@[simp] theorem raiseDev_handedUnits (d : DevFlag) (s : State) :
    (raiseDev d s).handedUnits = s.handedUnits := rfl

@[simp] theorem raiseDev_handedFrames (d : DevFlag) (s : State) :
    (raiseDev d s).handedFrames = s.handedFrames := rfl

@[simp] theorem raiseDev_contexts (d : DevFlag) (s : State) :
    (raiseDev d s).contexts = s.contexts := rfl

@[simp] theorem raiseDev_smc (d : DevFlag) (s : State) :
    (raiseDev d s).smc = s.smc := rfl

@[simp] theorem raiseDev_rings (d : DevFlag) (s : State) :
    (raiseDev d s).rings = s.rings := rfl

@[simp] theorem raiseDev_placed (d : DevFlag) (s : State) :
    (raiseDev d s).placed = s.placed := rfl

@[simp] theorem raiseDev_clips (d : DevFlag) (s : State) :
    (raiseDev d s).clips = s.clips := rfl

@[simp] theorem raiseDev_bu (d : DevFlag) (s : State) :
    (raiseDev d s).bu = s.bu := rfl

@[simp] theorem raiseDev_sw (d : DevFlag) (s : State) :
    (raiseDev d s).sw = s.sw := rfl

@[simp] theorem raiseDev_fw (d : DevFlag) (s : State) :
    (raiseDev d s).fw = s.fw := rfl

@[simp] theorem raiseDev_mu_origins (d : DevFlag) (s : State) :
    (raiseDev d s).mu.origins = s.mu.origins := rfl

@[simp] theorem raiseDev_mu_address (d : DevFlag) (s : State) :
    (raiseDev d s).mu.address = s.mu.address := rfl

@[simp] theorem raiseDev_mu_requests (d : DevFlag) (s : State) :
    (raiseDev d s).mu.requests = s.mu.requests := rfl

@[simp] theorem raiseDev_mu_waiting (d : DevFlag) (s : State) :
    (raiseDev d s).mu.waiting = s.mu.waiting := rfl

@[simp] theorem raiseDev_mu_resetDue (d : DevFlag) (s : State) :
    (raiseDev d s).mu.resetDue = s.mu.resetDue := rfl

@[simp] theorem raiseDev_mu_tx (d : DevFlag) (s : State) :
    (raiseDev d s).mu.tx = s.mu.tx := rfl

@[simp] theorem raiseDev_mu_feedFlags (d : DevFlag) (s : State) :
    (raiseDev d s).mu.feedFlags = s.mu.feedFlags := rfl

@[simp] theorem raiseDev_mu_refusedOrigin (d : DevFlag) (s : State) :
    (raiseDev d s).mu.refusedOrigin = s.mu.refusedOrigin := rfl

@[simp] theorem raiseDev_mu_malformedRequests (d : DevFlag) (s : State) :
    (raiseDev d s).mu.malformedRequests = s.mu.malformedRequests := rfl

@[simp] theorem raiseDev_mu_requestsDropped (d : DevFlag) (s : State) :
    (raiseDev d s).mu.requestsDropped = s.mu.requestsDropped := rfl

@[simp] theorem raiseDev_mu_noticesUnsent (d : DevFlag) (s : State) :
    (raiseDev d s).mu.noticesUnsent = s.mu.noticesUnsent := rfl

@[simp] theorem raiseDev_mu_lastSent (d : DevFlag) (s : State) :
    (raiseDev d s).mu.lastSent = s.mu.lastSent := rfl

@[simp] theorem raiseDev_mu_sent (d : DevFlag) (s : State) :
    (raiseDev d s).mu.sent = s.mu.sent := rfl

@[simp] theorem raiseDev_mu_joined (d : DevFlag) (s : State) :
    (raiseDev d s).mu.joined = s.mu.joined := rfl

@[simp] theorem raiseDev_nextSerial (d : DevFlag) (s : State) :
    (raiseDev d s).nextSerial = s.nextSerial := rfl

@[simp] theorem raiseDev_pending (d : DevFlag) (s : State) :
    (raiseDev d s).pending = s.pending := rfl

@[simp] theorem raiseDev_mu_devFlags (d : DevFlag) (s : State) :
    (raiseDev d s).mu.devFlags = s.mu.devFlags ||| d.bit := rfl

@[simp] theorem raiseDev_feed (d : DevFlag) (s : State) (x : FeedNo) :
    (raiseDev d s).feed x = s.feed x := rfl

@[simp] theorem raiseDev_clip (d : DevFlag) (s : State) (x : ClipNo) :
    (raiseDev d s).clip x = s.clip x := rfl

@[simp] theorem raiseDev_contextsOf (d : DevFlag) (s : State) (x : FeedNo) :
    (raiseDev d s).contextsOf x = s.contextsOf x := rfl

@[simp] theorem raiseDev_ring (d : DevFlag) (s : State) (x : FeedNo) :
    (raiseDev d s).ring x = s.ring x := rfl

@[simp] theorem raiseDev_holding (d : DevFlag) (s : State) (x : FeedNo) :
    (raiseDev d s).holding x = s.holding x := rfl

@[simp] theorem raiseDev_flagsOf (d : DevFlag) (s : State) (x : FeedNo) :
    (raiseDev d s).flagsOf x = s.flagsOf x := rfl

@[simp] theorem raiseDev_watchEntry (d : DevFlag) (s : State) (x : FeedNo) :
    (raiseDev d s).watchEntry x = s.watchEntry x := rfl

/-! ### setFeedFlags -/

@[simp] theorem setFeedFlags_wall (f : FeedNo) (b : BitVec 5) (s : State) :
    (setFeedFlags f b s).wall = s.wall := rfl

@[simp] theorem setFeedFlags_resetLine (f : FeedNo) (b : BitVec 5) (s : State) :
    (setFeedFlags f b s).resetLine = s.resetLine := rfl

@[simp] theorem setFeedFlags_contribCarrier (f : FeedNo) (b : BitVec 5) (s : State) :
    (setFeedFlags f b s).contribCarrier = s.contribCarrier := rfl

@[simp] theorem setFeedFlags_storCarrier (f : FeedNo) (b : BitVec 5) (s : State) :
    (setFeedFlags f b s).storCarrier = s.storCarrier := rfl

@[simp] theorem setFeedFlags_holdLine (f : FeedNo) (b : BitVec 5) (s : State) :
    (setFeedFlags f b s).holdLine = s.holdLine := rfl

@[simp] theorem setFeedFlags_feeds (f : FeedNo) (b : BitVec 5) (s : State) :
    (setFeedFlags f b s).feeds = s.feeds := rfl

@[simp] theorem setFeedFlags_port (f : FeedNo) (b : BitVec 5) (s : State) :
    (setFeedFlags f b s).port = s.port := rfl

@[simp] theorem setFeedFlags_handedUnits (f : FeedNo) (b : BitVec 5) (s : State) :
    (setFeedFlags f b s).handedUnits = s.handedUnits := rfl

@[simp] theorem setFeedFlags_handedFrames (f : FeedNo) (b : BitVec 5) (s : State) :
    (setFeedFlags f b s).handedFrames = s.handedFrames := rfl

@[simp] theorem setFeedFlags_contexts (f : FeedNo) (b : BitVec 5) (s : State) :
    (setFeedFlags f b s).contexts = s.contexts := rfl

@[simp] theorem setFeedFlags_smc (f : FeedNo) (b : BitVec 5) (s : State) :
    (setFeedFlags f b s).smc = s.smc := rfl

@[simp] theorem setFeedFlags_rings (f : FeedNo) (b : BitVec 5) (s : State) :
    (setFeedFlags f b s).rings = s.rings := rfl

@[simp] theorem setFeedFlags_placed (f : FeedNo) (b : BitVec 5) (s : State) :
    (setFeedFlags f b s).placed = s.placed := rfl

@[simp] theorem setFeedFlags_clips (f : FeedNo) (b : BitVec 5) (s : State) :
    (setFeedFlags f b s).clips = s.clips := rfl

@[simp] theorem setFeedFlags_bu (f : FeedNo) (b : BitVec 5) (s : State) :
    (setFeedFlags f b s).bu = s.bu := rfl

@[simp] theorem setFeedFlags_sw (f : FeedNo) (b : BitVec 5) (s : State) :
    (setFeedFlags f b s).sw = s.sw := rfl

@[simp] theorem setFeedFlags_fw (f : FeedNo) (b : BitVec 5) (s : State) :
    (setFeedFlags f b s).fw = s.fw := rfl

@[simp] theorem setFeedFlags_mu_origins (f : FeedNo) (b : BitVec 5) (s : State) :
    (setFeedFlags f b s).mu.origins = s.mu.origins := rfl

@[simp] theorem setFeedFlags_mu_address (f : FeedNo) (b : BitVec 5) (s : State) :
    (setFeedFlags f b s).mu.address = s.mu.address := rfl

@[simp] theorem setFeedFlags_mu_requests (f : FeedNo) (b : BitVec 5) (s : State) :
    (setFeedFlags f b s).mu.requests = s.mu.requests := rfl

@[simp] theorem setFeedFlags_mu_waiting (f : FeedNo) (b : BitVec 5) (s : State) :
    (setFeedFlags f b s).mu.waiting = s.mu.waiting := rfl

@[simp] theorem setFeedFlags_mu_resetDue (f : FeedNo) (b : BitVec 5) (s : State) :
    (setFeedFlags f b s).mu.resetDue = s.mu.resetDue := rfl

@[simp] theorem setFeedFlags_mu_tx (f : FeedNo) (b : BitVec 5) (s : State) :
    (setFeedFlags f b s).mu.tx = s.mu.tx := rfl

@[simp] theorem setFeedFlags_mu_devFlags (f : FeedNo) (b : BitVec 5) (s : State) :
    (setFeedFlags f b s).mu.devFlags = s.mu.devFlags := rfl

@[simp] theorem setFeedFlags_mu_refusedOrigin (f : FeedNo) (b : BitVec 5) (s : State) :
    (setFeedFlags f b s).mu.refusedOrigin = s.mu.refusedOrigin := rfl

@[simp] theorem setFeedFlags_mu_malformedRequests (f : FeedNo) (b : BitVec 5) (s : State) :
    (setFeedFlags f b s).mu.malformedRequests = s.mu.malformedRequests := rfl

@[simp] theorem setFeedFlags_mu_requestsDropped (f : FeedNo) (b : BitVec 5) (s : State) :
    (setFeedFlags f b s).mu.requestsDropped = s.mu.requestsDropped := rfl

@[simp] theorem setFeedFlags_mu_noticesUnsent (f : FeedNo) (b : BitVec 5) (s : State) :
    (setFeedFlags f b s).mu.noticesUnsent = s.mu.noticesUnsent := rfl

@[simp] theorem setFeedFlags_mu_lastSent (f : FeedNo) (b : BitVec 5) (s : State) :
    (setFeedFlags f b s).mu.lastSent = s.mu.lastSent := rfl

@[simp] theorem setFeedFlags_mu_sent (f : FeedNo) (b : BitVec 5) (s : State) :
    (setFeedFlags f b s).mu.sent = s.mu.sent := rfl

@[simp] theorem setFeedFlags_mu_joined (f : FeedNo) (b : BitVec 5) (s : State) :
    (setFeedFlags f b s).mu.joined = s.mu.joined := rfl

@[simp] theorem setFeedFlags_nextSerial (f : FeedNo) (b : BitVec 5) (s : State) :
    (setFeedFlags f b s).nextSerial = s.nextSerial := rfl

@[simp] theorem setFeedFlags_pending (f : FeedNo) (b : BitVec 5) (s : State) :
    (setFeedFlags f b s).pending = s.pending := rfl

@[simp] theorem setFeedFlags_mu_feedFlags (f : FeedNo) (b : BitVec 5) (s : State) :
    (setFeedFlags f b s).mu.feedFlags = s.mu.feedFlags.set f b := rfl

@[simp] theorem setFeedFlags_feed (f : FeedNo) (b : BitVec 5) (s : State) (x : FeedNo) :
    (setFeedFlags f b s).feed x = s.feed x := rfl

@[simp] theorem setFeedFlags_clip (f : FeedNo) (b : BitVec 5) (s : State) (x : ClipNo) :
    (setFeedFlags f b s).clip x = s.clip x := rfl

@[simp] theorem setFeedFlags_contextsOf (f : FeedNo) (b : BitVec 5) (s : State) (x : FeedNo) :
    (setFeedFlags f b s).contextsOf x = s.contextsOf x := rfl

@[simp] theorem setFeedFlags_ring (f : FeedNo) (b : BitVec 5) (s : State) (x : FeedNo) :
    (setFeedFlags f b s).ring x = s.ring x := rfl

@[simp] theorem setFeedFlags_holding (f : FeedNo) (b : BitVec 5) (s : State) (x : FeedNo) :
    (setFeedFlags f b s).holding x = s.holding x := rfl

@[simp] theorem setFeedFlags_watchEntry (f : FeedNo) (b : BitVec 5) (s : State) (x : FeedNo) :
    (setFeedFlags f b s).watchEntry x = s.watchEntry x := rfl

/-! ### pushTx -/

@[simp] theorem pushTx_wall (t : TxFrame) (s : State) :
    (pushTx t s).wall = s.wall := rfl

@[simp] theorem pushTx_resetLine (t : TxFrame) (s : State) :
    (pushTx t s).resetLine = s.resetLine := rfl

@[simp] theorem pushTx_contribCarrier (t : TxFrame) (s : State) :
    (pushTx t s).contribCarrier = s.contribCarrier := rfl

@[simp] theorem pushTx_storCarrier (t : TxFrame) (s : State) :
    (pushTx t s).storCarrier = s.storCarrier := rfl

@[simp] theorem pushTx_holdLine (t : TxFrame) (s : State) :
    (pushTx t s).holdLine = s.holdLine := rfl

@[simp] theorem pushTx_feeds (t : TxFrame) (s : State) :
    (pushTx t s).feeds = s.feeds := rfl

@[simp] theorem pushTx_port (t : TxFrame) (s : State) :
    (pushTx t s).port = s.port := rfl

@[simp] theorem pushTx_handedUnits (t : TxFrame) (s : State) :
    (pushTx t s).handedUnits = s.handedUnits := rfl

@[simp] theorem pushTx_handedFrames (t : TxFrame) (s : State) :
    (pushTx t s).handedFrames = s.handedFrames := rfl

@[simp] theorem pushTx_contexts (t : TxFrame) (s : State) :
    (pushTx t s).contexts = s.contexts := rfl

@[simp] theorem pushTx_smc (t : TxFrame) (s : State) :
    (pushTx t s).smc = s.smc := rfl

@[simp] theorem pushTx_rings (t : TxFrame) (s : State) :
    (pushTx t s).rings = s.rings := rfl

@[simp] theorem pushTx_placed (t : TxFrame) (s : State) :
    (pushTx t s).placed = s.placed := rfl

@[simp] theorem pushTx_clips (t : TxFrame) (s : State) :
    (pushTx t s).clips = s.clips := rfl

@[simp] theorem pushTx_bu (t : TxFrame) (s : State) :
    (pushTx t s).bu = s.bu := rfl

@[simp] theorem pushTx_sw (t : TxFrame) (s : State) :
    (pushTx t s).sw = s.sw := rfl

@[simp] theorem pushTx_fw (t : TxFrame) (s : State) :
    (pushTx t s).fw = s.fw := rfl

@[simp] theorem pushTx_mu_origins (t : TxFrame) (s : State) :
    (pushTx t s).mu.origins = s.mu.origins := rfl

@[simp] theorem pushTx_mu_address (t : TxFrame) (s : State) :
    (pushTx t s).mu.address = s.mu.address := rfl

@[simp] theorem pushTx_mu_requests (t : TxFrame) (s : State) :
    (pushTx t s).mu.requests = s.mu.requests := rfl

@[simp] theorem pushTx_mu_waiting (t : TxFrame) (s : State) :
    (pushTx t s).mu.waiting = s.mu.waiting := rfl

@[simp] theorem pushTx_mu_resetDue (t : TxFrame) (s : State) :
    (pushTx t s).mu.resetDue = s.mu.resetDue := rfl

@[simp] theorem pushTx_mu_devFlags (t : TxFrame) (s : State) :
    (pushTx t s).mu.devFlags = s.mu.devFlags := rfl

@[simp] theorem pushTx_mu_feedFlags (t : TxFrame) (s : State) :
    (pushTx t s).mu.feedFlags = s.mu.feedFlags := rfl

@[simp] theorem pushTx_mu_refusedOrigin (t : TxFrame) (s : State) :
    (pushTx t s).mu.refusedOrigin = s.mu.refusedOrigin := rfl

@[simp] theorem pushTx_mu_malformedRequests (t : TxFrame) (s : State) :
    (pushTx t s).mu.malformedRequests = s.mu.malformedRequests := rfl

@[simp] theorem pushTx_mu_requestsDropped (t : TxFrame) (s : State) :
    (pushTx t s).mu.requestsDropped = s.mu.requestsDropped := rfl

@[simp] theorem pushTx_mu_noticesUnsent (t : TxFrame) (s : State) :
    (pushTx t s).mu.noticesUnsent = s.mu.noticesUnsent := rfl

@[simp] theorem pushTx_mu_lastSent (t : TxFrame) (s : State) :
    (pushTx t s).mu.lastSent = s.mu.lastSent := rfl

@[simp] theorem pushTx_mu_sent (t : TxFrame) (s : State) :
    (pushTx t s).mu.sent = s.mu.sent := rfl

@[simp] theorem pushTx_mu_joined (t : TxFrame) (s : State) :
    (pushTx t s).mu.joined = s.mu.joined := rfl

@[simp] theorem pushTx_nextSerial (t : TxFrame) (s : State) :
    (pushTx t s).nextSerial = s.nextSerial := rfl

@[simp] theorem pushTx_pending (t : TxFrame) (s : State) :
    (pushTx t s).pending = s.pending := rfl

@[simp] theorem pushTx_mu_tx (t : TxFrame) (s : State) :
    (pushTx t s).mu.tx = s.mu.tx ++ [t] := rfl

@[simp] theorem pushTx_feed (t : TxFrame) (s : State) (x : FeedNo) :
    (pushTx t s).feed x = s.feed x := rfl

@[simp] theorem pushTx_clip (t : TxFrame) (s : State) (x : ClipNo) :
    (pushTx t s).clip x = s.clip x := rfl

@[simp] theorem pushTx_contextsOf (t : TxFrame) (s : State) (x : FeedNo) :
    (pushTx t s).contextsOf x = s.contextsOf x := rfl

@[simp] theorem pushTx_ring (t : TxFrame) (s : State) (x : FeedNo) :
    (pushTx t s).ring x = s.ring x := rfl

@[simp] theorem pushTx_holding (t : TxFrame) (s : State) (x : FeedNo) :
    (pushTx t s).holding x = s.holding x := rfl

@[simp] theorem pushTx_flagsOf (t : TxFrame) (s : State) (x : FeedNo) :
    (pushTx t s).flagsOf x = s.flagsOf x := rfl

@[simp] theorem pushTx_watchEntry (t : TxFrame) (s : State) (x : FeedNo) :
    (pushTx t s).watchEntry x = s.watchEntry x := rfl

/-! ### countUnsent -/

@[simp] theorem countUnsent_wall (s : State) :
    (countUnsent s).wall = s.wall := rfl

@[simp] theorem countUnsent_resetLine (s : State) :
    (countUnsent s).resetLine = s.resetLine := rfl

@[simp] theorem countUnsent_contribCarrier (s : State) :
    (countUnsent s).contribCarrier = s.contribCarrier := rfl

@[simp] theorem countUnsent_storCarrier (s : State) :
    (countUnsent s).storCarrier = s.storCarrier := rfl

@[simp] theorem countUnsent_holdLine (s : State) :
    (countUnsent s).holdLine = s.holdLine := rfl

@[simp] theorem countUnsent_feeds (s : State) :
    (countUnsent s).feeds = s.feeds := rfl

@[simp] theorem countUnsent_port (s : State) :
    (countUnsent s).port = s.port := rfl

@[simp] theorem countUnsent_handedUnits (s : State) :
    (countUnsent s).handedUnits = s.handedUnits := rfl

@[simp] theorem countUnsent_handedFrames (s : State) :
    (countUnsent s).handedFrames = s.handedFrames := rfl

@[simp] theorem countUnsent_contexts (s : State) :
    (countUnsent s).contexts = s.contexts := rfl

@[simp] theorem countUnsent_smc (s : State) :
    (countUnsent s).smc = s.smc := rfl

@[simp] theorem countUnsent_rings (s : State) :
    (countUnsent s).rings = s.rings := rfl

@[simp] theorem countUnsent_placed (s : State) :
    (countUnsent s).placed = s.placed := rfl

@[simp] theorem countUnsent_clips (s : State) :
    (countUnsent s).clips = s.clips := rfl

@[simp] theorem countUnsent_bu (s : State) :
    (countUnsent s).bu = s.bu := rfl

@[simp] theorem countUnsent_sw (s : State) :
    (countUnsent s).sw = s.sw := rfl

@[simp] theorem countUnsent_fw (s : State) :
    (countUnsent s).fw = s.fw := rfl

@[simp] theorem countUnsent_mu_origins (s : State) :
    (countUnsent s).mu.origins = s.mu.origins := rfl

@[simp] theorem countUnsent_mu_address (s : State) :
    (countUnsent s).mu.address = s.mu.address := rfl

@[simp] theorem countUnsent_mu_requests (s : State) :
    (countUnsent s).mu.requests = s.mu.requests := rfl

@[simp] theorem countUnsent_mu_waiting (s : State) :
    (countUnsent s).mu.waiting = s.mu.waiting := rfl

@[simp] theorem countUnsent_mu_resetDue (s : State) :
    (countUnsent s).mu.resetDue = s.mu.resetDue := rfl

@[simp] theorem countUnsent_mu_tx (s : State) :
    (countUnsent s).mu.tx = s.mu.tx := rfl

@[simp] theorem countUnsent_mu_devFlags (s : State) :
    (countUnsent s).mu.devFlags = s.mu.devFlags := rfl

@[simp] theorem countUnsent_mu_feedFlags (s : State) :
    (countUnsent s).mu.feedFlags = s.mu.feedFlags := rfl

@[simp] theorem countUnsent_mu_refusedOrigin (s : State) :
    (countUnsent s).mu.refusedOrigin = s.mu.refusedOrigin := rfl

@[simp] theorem countUnsent_mu_malformedRequests (s : State) :
    (countUnsent s).mu.malformedRequests = s.mu.malformedRequests := rfl

@[simp] theorem countUnsent_mu_requestsDropped (s : State) :
    (countUnsent s).mu.requestsDropped = s.mu.requestsDropped := rfl

@[simp] theorem countUnsent_mu_lastSent (s : State) :
    (countUnsent s).mu.lastSent = s.mu.lastSent := rfl

@[simp] theorem countUnsent_mu_sent (s : State) :
    (countUnsent s).mu.sent = s.mu.sent := rfl

@[simp] theorem countUnsent_mu_joined (s : State) :
    (countUnsent s).mu.joined = s.mu.joined := rfl

@[simp] theorem countUnsent_nextSerial (s : State) :
    (countUnsent s).nextSerial = s.nextSerial := rfl

@[simp] theorem countUnsent_pending (s : State) :
    (countUnsent s).pending = s.pending := rfl

@[simp] theorem countUnsent_mu_noticesUnsent (s : State) :
    (countUnsent s).mu.noticesUnsent = bump s.mu.noticesUnsent := rfl

@[simp] theorem countUnsent_feed (s : State) (x : FeedNo) :
    (countUnsent s).feed x = s.feed x := rfl

@[simp] theorem countUnsent_clip (s : State) (x : ClipNo) :
    (countUnsent s).clip x = s.clip x := rfl

@[simp] theorem countUnsent_contextsOf (s : State) (x : FeedNo) :
    (countUnsent s).contextsOf x = s.contextsOf x := rfl

@[simp] theorem countUnsent_ring (s : State) (x : FeedNo) :
    (countUnsent s).ring x = s.ring x := rfl

@[simp] theorem countUnsent_holding (s : State) (x : FeedNo) :
    (countUnsent s).holding x = s.holding x := rfl

@[simp] theorem countUnsent_flagsOf (s : State) (x : FeedNo) :
    (countUnsent s).flagsOf x = s.flagsOf x := rfl

@[simp] theorem countUnsent_watchEntry (s : State) (x : FeedNo) :
    (countUnsent s).watchEntry x = s.watchEntry x := rfl

/-! ### fixJoin -/

@[simp] theorem fixJoin_wall (s : State) :
    (fixJoin s).wall = s.wall := rfl

@[simp] theorem fixJoin_resetLine (s : State) :
    (fixJoin s).resetLine = s.resetLine := rfl

@[simp] theorem fixJoin_contribCarrier (s : State) :
    (fixJoin s).contribCarrier = s.contribCarrier := rfl

@[simp] theorem fixJoin_storCarrier (s : State) :
    (fixJoin s).storCarrier = s.storCarrier := rfl

@[simp] theorem fixJoin_holdLine (s : State) :
    (fixJoin s).holdLine = s.holdLine := rfl

@[simp] theorem fixJoin_feeds (s : State) :
    (fixJoin s).feeds = s.feeds := rfl

@[simp] theorem fixJoin_port (s : State) :
    (fixJoin s).port = s.port := rfl

@[simp] theorem fixJoin_handedUnits (s : State) :
    (fixJoin s).handedUnits = s.handedUnits := rfl

@[simp] theorem fixJoin_handedFrames (s : State) :
    (fixJoin s).handedFrames = s.handedFrames := rfl

@[simp] theorem fixJoin_contexts (s : State) :
    (fixJoin s).contexts = s.contexts := rfl

@[simp] theorem fixJoin_smc (s : State) :
    (fixJoin s).smc = s.smc := rfl

@[simp] theorem fixJoin_rings (s : State) :
    (fixJoin s).rings = s.rings := rfl

@[simp] theorem fixJoin_placed (s : State) :
    (fixJoin s).placed = s.placed := rfl

@[simp] theorem fixJoin_clips (s : State) :
    (fixJoin s).clips = s.clips := rfl

@[simp] theorem fixJoin_bu (s : State) :
    (fixJoin s).bu = s.bu := rfl

@[simp] theorem fixJoin_sw (s : State) :
    (fixJoin s).sw = s.sw := rfl

@[simp] theorem fixJoin_fw (s : State) :
    (fixJoin s).fw = s.fw := rfl

@[simp] theorem fixJoin_mu_origins (s : State) :
    (fixJoin s).mu.origins = s.mu.origins := rfl

@[simp] theorem fixJoin_mu_address (s : State) :
    (fixJoin s).mu.address = s.mu.address := rfl

@[simp] theorem fixJoin_mu_requests (s : State) :
    (fixJoin s).mu.requests = s.mu.requests := rfl

@[simp] theorem fixJoin_mu_waiting (s : State) :
    (fixJoin s).mu.waiting = s.mu.waiting := rfl

@[simp] theorem fixJoin_mu_resetDue (s : State) :
    (fixJoin s).mu.resetDue = s.mu.resetDue := rfl

@[simp] theorem fixJoin_mu_tx (s : State) :
    (fixJoin s).mu.tx = s.mu.tx := rfl

@[simp] theorem fixJoin_mu_devFlags (s : State) :
    (fixJoin s).mu.devFlags = s.mu.devFlags := rfl

@[simp] theorem fixJoin_mu_feedFlags (s : State) :
    (fixJoin s).mu.feedFlags = s.mu.feedFlags := rfl

@[simp] theorem fixJoin_mu_refusedOrigin (s : State) :
    (fixJoin s).mu.refusedOrigin = s.mu.refusedOrigin := rfl

@[simp] theorem fixJoin_mu_malformedRequests (s : State) :
    (fixJoin s).mu.malformedRequests = s.mu.malformedRequests := rfl

@[simp] theorem fixJoin_mu_requestsDropped (s : State) :
    (fixJoin s).mu.requestsDropped = s.mu.requestsDropped := rfl

@[simp] theorem fixJoin_mu_noticesUnsent (s : State) :
    (fixJoin s).mu.noticesUnsent = s.mu.noticesUnsent := rfl

@[simp] theorem fixJoin_mu_lastSent (s : State) :
    (fixJoin s).mu.lastSent = s.mu.lastSent := rfl

@[simp] theorem fixJoin_mu_sent (s : State) :
    (fixJoin s).mu.sent = s.mu.sent := rfl

@[simp] theorem fixJoin_nextSerial (s : State) :
    (fixJoin s).nextSerial = s.nextSerial := rfl

@[simp] theorem fixJoin_pending (s : State) :
    (fixJoin s).pending = s.pending := rfl

@[simp] theorem fixJoin_mu_joined (s : State) :
    (fixJoin s).mu.joined = none := rfl

@[simp] theorem fixJoin_feed (s : State) (x : FeedNo) :
    (fixJoin s).feed x = s.feed x := rfl

@[simp] theorem fixJoin_clip (s : State) (x : ClipNo) :
    (fixJoin s).clip x = s.clip x := rfl

@[simp] theorem fixJoin_contextsOf (s : State) (x : FeedNo) :
    (fixJoin s).contextsOf x = s.contextsOf x := rfl

@[simp] theorem fixJoin_ring (s : State) (x : FeedNo) :
    (fixJoin s).ring x = s.ring x := rfl

@[simp] theorem fixJoin_holding (s : State) (x : FeedNo) :
    (fixJoin s).holding x = s.holding x := rfl

@[simp] theorem fixJoin_flagsOf (s : State) (x : FeedNo) :
    (fixJoin s).flagsOf x = s.flagsOf x := rfl

@[simp] theorem fixJoin_watchEntry (s : State) (x : FeedNo) :
    (fixJoin s).watchEntry x = s.watchEntry x := rfl

/-! ### beforeJoin -/

@[simp] theorem beforeJoin_wall (j : Joined) (s : State) :
    (beforeJoin j s).wall = s.wall := rfl

@[simp] theorem beforeJoin_resetLine (j : Joined) (s : State) :
    (beforeJoin j s).resetLine = s.resetLine := rfl

@[simp] theorem beforeJoin_contribCarrier (j : Joined) (s : State) :
    (beforeJoin j s).contribCarrier = s.contribCarrier := rfl

@[simp] theorem beforeJoin_storCarrier (j : Joined) (s : State) :
    (beforeJoin j s).storCarrier = s.storCarrier := rfl

@[simp] theorem beforeJoin_holdLine (j : Joined) (s : State) :
    (beforeJoin j s).holdLine = s.holdLine := rfl

@[simp] theorem beforeJoin_feeds (j : Joined) (s : State) :
    (beforeJoin j s).feeds = s.feeds := rfl

@[simp] theorem beforeJoin_port (j : Joined) (s : State) :
    (beforeJoin j s).port = s.port := rfl

@[simp] theorem beforeJoin_handedUnits (j : Joined) (s : State) :
    (beforeJoin j s).handedUnits = s.handedUnits := rfl

@[simp] theorem beforeJoin_handedFrames (j : Joined) (s : State) :
    (beforeJoin j s).handedFrames = s.handedFrames := rfl

@[simp] theorem beforeJoin_contexts (j : Joined) (s : State) :
    (beforeJoin j s).contexts = s.contexts := rfl

@[simp] theorem beforeJoin_smc (j : Joined) (s : State) :
    (beforeJoin j s).smc = s.smc := rfl

@[simp] theorem beforeJoin_rings (j : Joined) (s : State) :
    (beforeJoin j s).rings = s.rings := rfl

@[simp] theorem beforeJoin_placed (j : Joined) (s : State) :
    (beforeJoin j s).placed = s.placed := rfl

@[simp] theorem beforeJoin_clips (j : Joined) (s : State) :
    (beforeJoin j s).clips = s.clips := rfl

@[simp] theorem beforeJoin_bu (j : Joined) (s : State) :
    (beforeJoin j s).bu = s.bu := rfl

@[simp] theorem beforeJoin_sw (j : Joined) (s : State) :
    (beforeJoin j s).sw = s.sw := rfl

@[simp] theorem beforeJoin_fw (j : Joined) (s : State) :
    (beforeJoin j s).fw = s.fw := rfl

@[simp] theorem beforeJoin_mu_origins (j : Joined) (s : State) :
    (beforeJoin j s).mu.origins = s.mu.origins := rfl

@[simp] theorem beforeJoin_mu_address (j : Joined) (s : State) :
    (beforeJoin j s).mu.address = s.mu.address := rfl

@[simp] theorem beforeJoin_mu_devFlags (j : Joined) (s : State) :
    (beforeJoin j s).mu.devFlags = s.mu.devFlags := rfl

@[simp] theorem beforeJoin_mu_feedFlags (j : Joined) (s : State) :
    (beforeJoin j s).mu.feedFlags = s.mu.feedFlags := rfl

@[simp] theorem beforeJoin_mu_refusedOrigin (j : Joined) (s : State) :
    (beforeJoin j s).mu.refusedOrigin = s.mu.refusedOrigin := rfl

@[simp] theorem beforeJoin_mu_malformedRequests (j : Joined) (s : State) :
    (beforeJoin j s).mu.malformedRequests = s.mu.malformedRequests := rfl

@[simp] theorem beforeJoin_mu_requestsDropped (j : Joined) (s : State) :
    (beforeJoin j s).mu.requestsDropped = s.mu.requestsDropped := rfl

@[simp] theorem beforeJoin_mu_noticesUnsent (j : Joined) (s : State) :
    (beforeJoin j s).mu.noticesUnsent = s.mu.noticesUnsent := rfl

@[simp] theorem beforeJoin_mu_lastSent (j : Joined) (s : State) :
    (beforeJoin j s).mu.lastSent = s.mu.lastSent := rfl

@[simp] theorem beforeJoin_mu_sent (j : Joined) (s : State) :
    (beforeJoin j s).mu.sent = s.mu.sent := rfl

@[simp] theorem beforeJoin_nextSerial (j : Joined) (s : State) :
    (beforeJoin j s).nextSerial = s.nextSerial := rfl

@[simp] theorem beforeJoin_pending (j : Joined) (s : State) :
    (beforeJoin j s).pending = s.pending := rfl

@[simp] theorem beforeJoin_mu_tx (j : Joined) (s : State) :
    (beforeJoin j s).mu.tx = s.mu.tx.dropLast := rfl

@[simp] theorem beforeJoin_mu_waiting (j : Joined) (s : State) :
    (beforeJoin j s).mu.waiting = some j.response := rfl

@[simp] theorem beforeJoin_mu_requests (j : Joined) (s : State) :
    (beforeJoin j s).mu.requests = j.request :: s.mu.requests := rfl

@[simp] theorem beforeJoin_mu_resetDue (j : Joined) (s : State) :
    (beforeJoin j s).mu.resetDue = false := rfl

@[simp] theorem beforeJoin_mu_joined (j : Joined) (s : State) :
    (beforeJoin j s).mu.joined = none := rfl

@[simp] theorem beforeJoin_feed (j : Joined) (s : State) (x : FeedNo) :
    (beforeJoin j s).feed x = s.feed x := rfl

@[simp] theorem beforeJoin_clip (j : Joined) (s : State) (x : ClipNo) :
    (beforeJoin j s).clip x = s.clip x := rfl

@[simp] theorem beforeJoin_contextsOf (j : Joined) (s : State) (x : FeedNo) :
    (beforeJoin j s).contextsOf x = s.contextsOf x := rfl

@[simp] theorem beforeJoin_ring (j : Joined) (s : State) (x : FeedNo) :
    (beforeJoin j s).ring x = s.ring x := rfl

@[simp] theorem beforeJoin_holding (j : Joined) (s : State) (x : FeedNo) :
    (beforeJoin j s).holding x = s.holding x := rfl

@[simp] theorem beforeJoin_flagsOf (j : Joined) (s : State) (x : FeedNo) :
    (beforeJoin j s).flagsOf x = s.flagsOf x := rfl

@[simp] theorem beforeJoin_watchEntry (j : Joined) (s : State) (x : FeedNo) :
    (beforeJoin j s).watchEntry x = s.watchEntry x := rfl

/-! ### modEntry -/

@[simp] theorem modEntry_wall (n : Nat) (g : WriteEntry → WriteEntry) (s : State) :
    (modEntry n g s).wall = s.wall := rfl

@[simp] theorem modEntry_resetLine (n : Nat) (g : WriteEntry → WriteEntry) (s : State) :
    (modEntry n g s).resetLine = s.resetLine := rfl

@[simp] theorem modEntry_contribCarrier (n : Nat) (g : WriteEntry → WriteEntry) (s : State) :
    (modEntry n g s).contribCarrier = s.contribCarrier := rfl

@[simp] theorem modEntry_storCarrier (n : Nat) (g : WriteEntry → WriteEntry) (s : State) :
    (modEntry n g s).storCarrier = s.storCarrier := rfl

@[simp] theorem modEntry_holdLine (n : Nat) (g : WriteEntry → WriteEntry) (s : State) :
    (modEntry n g s).holdLine = s.holdLine := rfl

@[simp] theorem modEntry_feeds (n : Nat) (g : WriteEntry → WriteEntry) (s : State) :
    (modEntry n g s).feeds = s.feeds := rfl

@[simp] theorem modEntry_port (n : Nat) (g : WriteEntry → WriteEntry) (s : State) :
    (modEntry n g s).port = s.port := rfl

@[simp] theorem modEntry_handedUnits (n : Nat) (g : WriteEntry → WriteEntry) (s : State) :
    (modEntry n g s).handedUnits = s.handedUnits := rfl

@[simp] theorem modEntry_handedFrames (n : Nat) (g : WriteEntry → WriteEntry) (s : State) :
    (modEntry n g s).handedFrames = s.handedFrames := rfl

@[simp] theorem modEntry_contexts (n : Nat) (g : WriteEntry → WriteEntry) (s : State) :
    (modEntry n g s).contexts = s.contexts := rfl

@[simp] theorem modEntry_smc (n : Nat) (g : WriteEntry → WriteEntry) (s : State) :
    (modEntry n g s).smc = s.smc := rfl

@[simp] theorem modEntry_rings (n : Nat) (g : WriteEntry → WriteEntry) (s : State) :
    (modEntry n g s).rings = s.rings := rfl

@[simp] theorem modEntry_placed (n : Nat) (g : WriteEntry → WriteEntry) (s : State) :
    (modEntry n g s).placed = s.placed := rfl

@[simp] theorem modEntry_clips (n : Nat) (g : WriteEntry → WriteEntry) (s : State) :
    (modEntry n g s).clips = s.clips := rfl

@[simp] theorem modEntry_bu (n : Nat) (g : WriteEntry → WriteEntry) (s : State) :
    (modEntry n g s).bu = s.bu := rfl

@[simp] theorem modEntry_sw_settings (n : Nat) (g : WriteEntry → WriteEntry) (s : State) :
    (modEntry n g s).sw.settings = s.sw.settings := rfl

@[simp] theorem modEntry_sw_portQueue (n : Nat) (g : WriteEntry → WriteEntry) (s : State) :
    (modEntry n g s).sw.portQueue = s.sw.portQueue := rfl

@[simp] theorem modEntry_sw_late (n : Nat) (g : WriteEntry → WriteEntry) (s : State) :
    (modEntry n g s).sw.late = s.sw.late := rfl

@[simp] theorem modEntry_sw_lastUsed (n : Nat) (g : WriteEntry → WriteEntry) (s : State) :
    (modEntry n g s).sw.lastUsed = s.sw.lastUsed := rfl

@[simp] theorem modEntry_sw_retired (n : Nat) (g : WriteEntry → WriteEntry) (s : State) :
    (modEntry n g s).sw.retired = s.sw.retired := rfl

@[simp] theorem modEntry_sw_paused (n : Nat) (g : WriteEntry → WriteEntry) (s : State) :
    (modEntry n g s).sw.paused = s.sw.paused := rfl

@[simp] theorem modEntry_sw_records (n : Nat) (g : WriteEntry → WriteEntry) (s : State) :
    (modEntry n g s).sw.records = s.sw.records := rfl

@[simp] theorem modEntry_sw_counters (n : Nat) (g : WriteEntry → WriteEntry) (s : State) :
    (modEntry n g s).sw.counters = s.sw.counters := rfl

@[simp] theorem modEntry_sw_stray (n : Nat) (g : WriteEntry → WriteEntry) (s : State) :
    (modEntry n g s).sw.stray = s.sw.stray := rfl

@[simp] theorem modEntry_sw_readies (n : Nat) (g : WriteEntry → WriteEntry) (s : State) :
    (modEntry n g s).sw.readies = s.sw.readies := rfl

@[simp] theorem modEntry_sw_foreign (n : Nat) (g : WriteEntry → WriteEntry) (s : State) :
    (modEntry n g s).sw.foreign = s.sw.foreign := rfl

@[simp] theorem modEntry_sw_lastMessages (n : Nat) (g : WriteEntry → WriteEntry) (s : State) :
    (modEntry n g s).sw.lastMessages = s.sw.lastMessages := rfl

@[simp] theorem modEntry_fw (n : Nat) (g : WriteEntry → WriteEntry) (s : State) :
    (modEntry n g s).fw = s.fw := rfl

@[simp] theorem modEntry_mu (n : Nat) (g : WriteEntry → WriteEntry) (s : State) :
    (modEntry n g s).mu = s.mu := rfl

@[simp] theorem modEntry_nextSerial (n : Nat) (g : WriteEntry → WriteEntry) (s : State) :
    (modEntry n g s).nextSerial = s.nextSerial := rfl

@[simp] theorem modEntry_pending (n : Nat) (g : WriteEntry → WriteEntry) (s : State) :
    (modEntry n g s).pending = s.pending := rfl

@[simp] theorem modEntry_sw_queue (n : Nat) (g : WriteEntry → WriteEntry) (s : State) :
    (modEntry n g s).sw.queue = s.sw.queue.map (fun e => if e.serial = n then g e else e) := rfl

@[simp] theorem modEntry_feed (n : Nat) (g : WriteEntry → WriteEntry) (s : State) (x : FeedNo) :
    (modEntry n g s).feed x = s.feed x := rfl

@[simp] theorem modEntry_clip (n : Nat) (g : WriteEntry → WriteEntry) (s : State) (x : ClipNo) :
    (modEntry n g s).clip x = s.clip x := rfl

@[simp] theorem modEntry_contextsOf (n : Nat) (g : WriteEntry → WriteEntry) (s : State) (x : FeedNo) :
    (modEntry n g s).contextsOf x = s.contextsOf x := rfl

@[simp] theorem modEntry_ring (n : Nat) (g : WriteEntry → WriteEntry) (s : State) (x : FeedNo) :
    (modEntry n g s).ring x = s.ring x := rfl

@[simp] theorem modEntry_holding (n : Nat) (g : WriteEntry → WriteEntry) (s : State) (x : FeedNo) :
    (modEntry n g s).holding x = s.holding x := rfl

@[simp] theorem modEntry_flagsOf (n : Nat) (g : WriteEntry → WriteEntry) (s : State) (x : FeedNo) :
    (modEntry n g s).flagsOf x = s.flagsOf x := rfl

@[simp] theorem modEntry_watchEntry (n : Nat) (g : WriteEntry → WriteEntry) (s : State) (x : FeedNo) :
    (modEntry n g s).watchEntry x = s.watchEntry x := rfl

/-! ### removeEntry -/

@[simp] theorem removeEntry_wall (n : Nat) (s : State) :
    (removeEntry n s).wall = s.wall := rfl

@[simp] theorem removeEntry_resetLine (n : Nat) (s : State) :
    (removeEntry n s).resetLine = s.resetLine := rfl

@[simp] theorem removeEntry_contribCarrier (n : Nat) (s : State) :
    (removeEntry n s).contribCarrier = s.contribCarrier := rfl

@[simp] theorem removeEntry_storCarrier (n : Nat) (s : State) :
    (removeEntry n s).storCarrier = s.storCarrier := rfl

@[simp] theorem removeEntry_holdLine (n : Nat) (s : State) :
    (removeEntry n s).holdLine = s.holdLine := rfl

@[simp] theorem removeEntry_feeds (n : Nat) (s : State) :
    (removeEntry n s).feeds = s.feeds := rfl

@[simp] theorem removeEntry_port (n : Nat) (s : State) :
    (removeEntry n s).port = s.port := rfl

@[simp] theorem removeEntry_handedUnits (n : Nat) (s : State) :
    (removeEntry n s).handedUnits = s.handedUnits := rfl

@[simp] theorem removeEntry_handedFrames (n : Nat) (s : State) :
    (removeEntry n s).handedFrames = s.handedFrames := rfl

@[simp] theorem removeEntry_contexts (n : Nat) (s : State) :
    (removeEntry n s).contexts = s.contexts := rfl

@[simp] theorem removeEntry_smc (n : Nat) (s : State) :
    (removeEntry n s).smc = s.smc := rfl

@[simp] theorem removeEntry_rings (n : Nat) (s : State) :
    (removeEntry n s).rings = s.rings := rfl

@[simp] theorem removeEntry_placed (n : Nat) (s : State) :
    (removeEntry n s).placed = s.placed := rfl

@[simp] theorem removeEntry_clips (n : Nat) (s : State) :
    (removeEntry n s).clips = s.clips := rfl

@[simp] theorem removeEntry_bu (n : Nat) (s : State) :
    (removeEntry n s).bu = s.bu := rfl

@[simp] theorem removeEntry_sw_settings (n : Nat) (s : State) :
    (removeEntry n s).sw.settings = s.sw.settings := rfl

@[simp] theorem removeEntry_sw_portQueue (n : Nat) (s : State) :
    (removeEntry n s).sw.portQueue = s.sw.portQueue := rfl

@[simp] theorem removeEntry_sw_late (n : Nat) (s : State) :
    (removeEntry n s).sw.late = s.sw.late := rfl

@[simp] theorem removeEntry_sw_lastUsed (n : Nat) (s : State) :
    (removeEntry n s).sw.lastUsed = s.sw.lastUsed := rfl

@[simp] theorem removeEntry_sw_retired (n : Nat) (s : State) :
    (removeEntry n s).sw.retired = s.sw.retired := rfl

@[simp] theorem removeEntry_sw_paused (n : Nat) (s : State) :
    (removeEntry n s).sw.paused = s.sw.paused := rfl

@[simp] theorem removeEntry_sw_records (n : Nat) (s : State) :
    (removeEntry n s).sw.records = s.sw.records := rfl

@[simp] theorem removeEntry_sw_counters (n : Nat) (s : State) :
    (removeEntry n s).sw.counters = s.sw.counters := rfl

@[simp] theorem removeEntry_sw_stray (n : Nat) (s : State) :
    (removeEntry n s).sw.stray = s.sw.stray := rfl

@[simp] theorem removeEntry_sw_readies (n : Nat) (s : State) :
    (removeEntry n s).sw.readies = s.sw.readies := rfl

@[simp] theorem removeEntry_sw_foreign (n : Nat) (s : State) :
    (removeEntry n s).sw.foreign = s.sw.foreign := rfl

@[simp] theorem removeEntry_sw_lastMessages (n : Nat) (s : State) :
    (removeEntry n s).sw.lastMessages = s.sw.lastMessages := rfl

@[simp] theorem removeEntry_fw (n : Nat) (s : State) :
    (removeEntry n s).fw = s.fw := rfl

@[simp] theorem removeEntry_mu (n : Nat) (s : State) :
    (removeEntry n s).mu = s.mu := rfl

@[simp] theorem removeEntry_nextSerial (n : Nat) (s : State) :
    (removeEntry n s).nextSerial = s.nextSerial := rfl

@[simp] theorem removeEntry_pending (n : Nat) (s : State) :
    (removeEntry n s).pending = s.pending := rfl

@[simp] theorem removeEntry_sw_queue (n : Nat) (s : State) :
    (removeEntry n s).sw.queue = s.sw.queue.filter (fun e => e.serial != n) := rfl

@[simp] theorem removeEntry_feed (n : Nat) (s : State) (x : FeedNo) :
    (removeEntry n s).feed x = s.feed x := rfl

@[simp] theorem removeEntry_clip (n : Nat) (s : State) (x : ClipNo) :
    (removeEntry n s).clip x = s.clip x := rfl

@[simp] theorem removeEntry_contextsOf (n : Nat) (s : State) (x : FeedNo) :
    (removeEntry n s).contextsOf x = s.contextsOf x := rfl

@[simp] theorem removeEntry_ring (n : Nat) (s : State) (x : FeedNo) :
    (removeEntry n s).ring x = s.ring x := rfl

@[simp] theorem removeEntry_holding (n : Nat) (s : State) (x : FeedNo) :
    (removeEntry n s).holding x = s.holding x := rfl

@[simp] theorem removeEntry_flagsOf (n : Nat) (s : State) (x : FeedNo) :
    (removeEntry n s).flagsOf x = s.flagsOf x := rfl

@[simp] theorem removeEntry_watchEntry (n : Nat) (s : State) (x : FeedNo) :
    (removeEntry n s).watchEntry x = s.watchEntry x := rfl

/-! ### retire -/

@[simp] theorem retire_wall (id : BitVec 8) (s : State) :
    (retire id s).wall = s.wall := rfl

@[simp] theorem retire_resetLine (id : BitVec 8) (s : State) :
    (retire id s).resetLine = s.resetLine := rfl

@[simp] theorem retire_contribCarrier (id : BitVec 8) (s : State) :
    (retire id s).contribCarrier = s.contribCarrier := rfl

@[simp] theorem retire_storCarrier (id : BitVec 8) (s : State) :
    (retire id s).storCarrier = s.storCarrier := rfl

@[simp] theorem retire_holdLine (id : BitVec 8) (s : State) :
    (retire id s).holdLine = s.holdLine := rfl

@[simp] theorem retire_feeds (id : BitVec 8) (s : State) :
    (retire id s).feeds = s.feeds := rfl

@[simp] theorem retire_port (id : BitVec 8) (s : State) :
    (retire id s).port = s.port := rfl

@[simp] theorem retire_handedUnits (id : BitVec 8) (s : State) :
    (retire id s).handedUnits = s.handedUnits := rfl

@[simp] theorem retire_handedFrames (id : BitVec 8) (s : State) :
    (retire id s).handedFrames = s.handedFrames := rfl

@[simp] theorem retire_contexts (id : BitVec 8) (s : State) :
    (retire id s).contexts = s.contexts := rfl

@[simp] theorem retire_smc (id : BitVec 8) (s : State) :
    (retire id s).smc = s.smc := rfl

@[simp] theorem retire_rings (id : BitVec 8) (s : State) :
    (retire id s).rings = s.rings := rfl

@[simp] theorem retire_placed (id : BitVec 8) (s : State) :
    (retire id s).placed = s.placed := rfl

@[simp] theorem retire_clips (id : BitVec 8) (s : State) :
    (retire id s).clips = s.clips := rfl

@[simp] theorem retire_bu (id : BitVec 8) (s : State) :
    (retire id s).bu = s.bu := rfl

@[simp] theorem retire_sw_settings (id : BitVec 8) (s : State) :
    (retire id s).sw.settings = s.sw.settings := rfl

@[simp] theorem retire_sw_queue (id : BitVec 8) (s : State) :
    (retire id s).sw.queue = s.sw.queue := rfl

@[simp] theorem retire_sw_portQueue (id : BitVec 8) (s : State) :
    (retire id s).sw.portQueue = s.sw.portQueue := rfl

@[simp] theorem retire_sw_late (id : BitVec 8) (s : State) :
    (retire id s).sw.late = s.sw.late := rfl

@[simp] theorem retire_sw_lastUsed (id : BitVec 8) (s : State) :
    (retire id s).sw.lastUsed = s.sw.lastUsed := rfl

@[simp] theorem retire_sw_paused (id : BitVec 8) (s : State) :
    (retire id s).sw.paused = s.sw.paused := rfl

@[simp] theorem retire_sw_records (id : BitVec 8) (s : State) :
    (retire id s).sw.records = s.sw.records := rfl

@[simp] theorem retire_sw_counters (id : BitVec 8) (s : State) :
    (retire id s).sw.counters = s.sw.counters := rfl

@[simp] theorem retire_sw_stray (id : BitVec 8) (s : State) :
    (retire id s).sw.stray = s.sw.stray := rfl

@[simp] theorem retire_sw_readies (id : BitVec 8) (s : State) :
    (retire id s).sw.readies = s.sw.readies := rfl

@[simp] theorem retire_sw_foreign (id : BitVec 8) (s : State) :
    (retire id s).sw.foreign = s.sw.foreign := rfl

@[simp] theorem retire_sw_lastMessages (id : BitVec 8) (s : State) :
    (retire id s).sw.lastMessages = s.sw.lastMessages := rfl

@[simp] theorem retire_fw (id : BitVec 8) (s : State) :
    (retire id s).fw = s.fw := rfl

@[simp] theorem retire_mu (id : BitVec 8) (s : State) :
    (retire id s).mu = s.mu := rfl

@[simp] theorem retire_nextSerial (id : BitVec 8) (s : State) :
    (retire id s).nextSerial = s.nextSerial := rfl

@[simp] theorem retire_pending (id : BitVec 8) (s : State) :
    (retire id s).pending = s.pending := rfl

@[simp] theorem retire_sw_retired (id : BitVec 8) (s : State) :
    (retire id s).sw.retired = s.sw.retired ++ [⟨id, s.wall, s.sw.settings.ackTimeout⟩] := rfl

@[simp] theorem retire_feed (id : BitVec 8) (s : State) (x : FeedNo) :
    (retire id s).feed x = s.feed x := rfl

@[simp] theorem retire_clip (id : BitVec 8) (s : State) (x : ClipNo) :
    (retire id s).clip x = s.clip x := rfl

@[simp] theorem retire_contextsOf (id : BitVec 8) (s : State) (x : FeedNo) :
    (retire id s).contextsOf x = s.contextsOf x := rfl

@[simp] theorem retire_ring (id : BitVec 8) (s : State) (x : FeedNo) :
    (retire id s).ring x = s.ring x := rfl

@[simp] theorem retire_holding (id : BitVec 8) (s : State) (x : FeedNo) :
    (retire id s).holding x = s.holding x := rfl

@[simp] theorem retire_flagsOf (id : BitVec 8) (s : State) (x : FeedNo) :
    (retire id s).flagsOf x = s.flagsOf x := rfl

@[simp] theorem retire_watchEntry (id : BitVec 8) (s : State) (x : FeedNo) :
    (retire id s).watchEntry x = s.watchEntry x := rfl

/-! ### clearPauses -/

@[simp] theorem clearPauses_wall (s : State) :
    (clearPauses s).wall = s.wall := rfl

@[simp] theorem clearPauses_resetLine (s : State) :
    (clearPauses s).resetLine = s.resetLine := rfl

@[simp] theorem clearPauses_contribCarrier (s : State) :
    (clearPauses s).contribCarrier = s.contribCarrier := rfl

@[simp] theorem clearPauses_storCarrier (s : State) :
    (clearPauses s).storCarrier = s.storCarrier := rfl

@[simp] theorem clearPauses_holdLine (s : State) :
    (clearPauses s).holdLine = s.holdLine := rfl

@[simp] theorem clearPauses_feeds (s : State) :
    (clearPauses s).feeds = s.feeds := rfl

@[simp] theorem clearPauses_port (s : State) :
    (clearPauses s).port = s.port := rfl

@[simp] theorem clearPauses_handedUnits (s : State) :
    (clearPauses s).handedUnits = s.handedUnits := rfl

@[simp] theorem clearPauses_handedFrames (s : State) :
    (clearPauses s).handedFrames = s.handedFrames := rfl

@[simp] theorem clearPauses_contexts (s : State) :
    (clearPauses s).contexts = s.contexts := rfl

@[simp] theorem clearPauses_smc (s : State) :
    (clearPauses s).smc = s.smc := rfl

@[simp] theorem clearPauses_rings (s : State) :
    (clearPauses s).rings = s.rings := rfl

@[simp] theorem clearPauses_placed (s : State) :
    (clearPauses s).placed = s.placed := rfl

@[simp] theorem clearPauses_clips (s : State) :
    (clearPauses s).clips = s.clips := rfl

@[simp] theorem clearPauses_bu (s : State) :
    (clearPauses s).bu = s.bu := rfl

@[simp] theorem clearPauses_sw_settings (s : State) :
    (clearPauses s).sw.settings = s.sw.settings := rfl

@[simp] theorem clearPauses_sw_queue (s : State) :
    (clearPauses s).sw.queue = s.sw.queue := rfl

@[simp] theorem clearPauses_sw_portQueue (s : State) :
    (clearPauses s).sw.portQueue = s.sw.portQueue := rfl

@[simp] theorem clearPauses_sw_late (s : State) :
    (clearPauses s).sw.late = s.sw.late := rfl

@[simp] theorem clearPauses_sw_lastUsed (s : State) :
    (clearPauses s).sw.lastUsed = s.sw.lastUsed := rfl

@[simp] theorem clearPauses_sw_retired (s : State) :
    (clearPauses s).sw.retired = s.sw.retired := rfl

@[simp] theorem clearPauses_sw_records (s : State) :
    (clearPauses s).sw.records = s.sw.records := rfl

@[simp] theorem clearPauses_sw_counters (s : State) :
    (clearPauses s).sw.counters = s.sw.counters := rfl

@[simp] theorem clearPauses_sw_stray (s : State) :
    (clearPauses s).sw.stray = s.sw.stray := rfl

@[simp] theorem clearPauses_sw_readies (s : State) :
    (clearPauses s).sw.readies = s.sw.readies := rfl

@[simp] theorem clearPauses_sw_foreign (s : State) :
    (clearPauses s).sw.foreign = s.sw.foreign := rfl

@[simp] theorem clearPauses_sw_lastMessages (s : State) :
    (clearPauses s).sw.lastMessages = s.sw.lastMessages := rfl

@[simp] theorem clearPauses_fw (s : State) :
    (clearPauses s).fw = s.fw := rfl

@[simp] theorem clearPauses_mu (s : State) :
    (clearPauses s).mu = s.mu := rfl

@[simp] theorem clearPauses_nextSerial (s : State) :
    (clearPauses s).nextSerial = s.nextSerial := rfl

@[simp] theorem clearPauses_pending (s : State) :
    (clearPauses s).pending = s.pending := rfl

@[simp] theorem clearPauses_sw_paused (s : State) :
    (clearPauses s).sw.paused = ⟨false, false, false⟩ := rfl

@[simp] theorem clearPauses_feed (s : State) (x : FeedNo) :
    (clearPauses s).feed x = s.feed x := rfl

@[simp] theorem clearPauses_clip (s : State) (x : ClipNo) :
    (clearPauses s).clip x = s.clip x := rfl

@[simp] theorem clearPauses_contextsOf (s : State) (x : FeedNo) :
    (clearPauses s).contextsOf x = s.contextsOf x := rfl

@[simp] theorem clearPauses_ring (s : State) (x : FeedNo) :
    (clearPauses s).ring x = s.ring x := rfl

@[simp] theorem clearPauses_holding (s : State) (x : FeedNo) :
    (clearPauses s).holding x = s.holding x := rfl

@[simp] theorem clearPauses_flagsOf (s : State) (x : FeedNo) :
    (clearPauses s).flagsOf x = s.flagsOf x := rfl

@[simp] theorem clearPauses_watchEntry (s : State) (x : FeedNo) :
    (clearPauses s).watchEntry x = s.watchEntry x := rfl

/-! ### countStray -/

@[simp] theorem countStray_wall (s : State) :
    (countStray s).wall = s.wall := rfl

@[simp] theorem countStray_resetLine (s : State) :
    (countStray s).resetLine = s.resetLine := rfl

@[simp] theorem countStray_contribCarrier (s : State) :
    (countStray s).contribCarrier = s.contribCarrier := rfl

@[simp] theorem countStray_storCarrier (s : State) :
    (countStray s).storCarrier = s.storCarrier := rfl

@[simp] theorem countStray_holdLine (s : State) :
    (countStray s).holdLine = s.holdLine := rfl

@[simp] theorem countStray_feeds (s : State) :
    (countStray s).feeds = s.feeds := rfl

@[simp] theorem countStray_port (s : State) :
    (countStray s).port = s.port := rfl

@[simp] theorem countStray_handedUnits (s : State) :
    (countStray s).handedUnits = s.handedUnits := rfl

@[simp] theorem countStray_handedFrames (s : State) :
    (countStray s).handedFrames = s.handedFrames := rfl

@[simp] theorem countStray_contexts (s : State) :
    (countStray s).contexts = s.contexts := rfl

@[simp] theorem countStray_smc (s : State) :
    (countStray s).smc = s.smc := rfl

@[simp] theorem countStray_rings (s : State) :
    (countStray s).rings = s.rings := rfl

@[simp] theorem countStray_placed (s : State) :
    (countStray s).placed = s.placed := rfl

@[simp] theorem countStray_clips (s : State) :
    (countStray s).clips = s.clips := rfl

@[simp] theorem countStray_bu (s : State) :
    (countStray s).bu = s.bu := rfl

@[simp] theorem countStray_sw_settings (s : State) :
    (countStray s).sw.settings = s.sw.settings := rfl

@[simp] theorem countStray_sw_queue (s : State) :
    (countStray s).sw.queue = s.sw.queue := rfl

@[simp] theorem countStray_sw_portQueue (s : State) :
    (countStray s).sw.portQueue = s.sw.portQueue := rfl

@[simp] theorem countStray_sw_late (s : State) :
    (countStray s).sw.late = s.sw.late := rfl

@[simp] theorem countStray_sw_lastUsed (s : State) :
    (countStray s).sw.lastUsed = s.sw.lastUsed := rfl

@[simp] theorem countStray_sw_retired (s : State) :
    (countStray s).sw.retired = s.sw.retired := rfl

@[simp] theorem countStray_sw_paused (s : State) :
    (countStray s).sw.paused = s.sw.paused := rfl

@[simp] theorem countStray_sw_records (s : State) :
    (countStray s).sw.records = s.sw.records := rfl

@[simp] theorem countStray_sw_counters (s : State) :
    (countStray s).sw.counters = s.sw.counters := rfl

@[simp] theorem countStray_sw_readies (s : State) :
    (countStray s).sw.readies = s.sw.readies := rfl

@[simp] theorem countStray_sw_foreign (s : State) :
    (countStray s).sw.foreign = s.sw.foreign := rfl

@[simp] theorem countStray_sw_lastMessages (s : State) :
    (countStray s).sw.lastMessages = s.sw.lastMessages := rfl

@[simp] theorem countStray_fw (s : State) :
    (countStray s).fw = s.fw := rfl

@[simp] theorem countStray_mu (s : State) :
    (countStray s).mu = s.mu := rfl

@[simp] theorem countStray_nextSerial (s : State) :
    (countStray s).nextSerial = s.nextSerial := rfl

@[simp] theorem countStray_pending (s : State) :
    (countStray s).pending = s.pending := rfl

@[simp] theorem countStray_sw_stray (s : State) :
    (countStray s).sw.stray = bump s.sw.stray := rfl

@[simp] theorem countStray_feed (s : State) (x : FeedNo) :
    (countStray s).feed x = s.feed x := rfl

@[simp] theorem countStray_clip (s : State) (x : ClipNo) :
    (countStray s).clip x = s.clip x := rfl

@[simp] theorem countStray_contextsOf (s : State) (x : FeedNo) :
    (countStray s).contextsOf x = s.contextsOf x := rfl

@[simp] theorem countStray_ring (s : State) (x : FeedNo) :
    (countStray s).ring x = s.ring x := rfl

@[simp] theorem countStray_holding (s : State) (x : FeedNo) :
    (countStray s).holding x = s.holding x := rfl

@[simp] theorem countStray_flagsOf (s : State) (x : FeedNo) :
    (countStray s).flagsOf x = s.flagsOf x := rfl

@[simp] theorem countStray_watchEntry (s : State) (x : FeedNo) :
    (countStray s).watchEntry x = s.watchEntry x := rfl

/-! ### nameSegment -/

@[simp] theorem nameSegment_wall (n m : Nat) (s : State) :
    (nameSegment n m s).wall = s.wall := rfl

@[simp] theorem nameSegment_resetLine (n m : Nat) (s : State) :
    (nameSegment n m s).resetLine = s.resetLine := rfl

@[simp] theorem nameSegment_contribCarrier (n m : Nat) (s : State) :
    (nameSegment n m s).contribCarrier = s.contribCarrier := rfl

@[simp] theorem nameSegment_storCarrier (n m : Nat) (s : State) :
    (nameSegment n m s).storCarrier = s.storCarrier := rfl

@[simp] theorem nameSegment_holdLine (n m : Nat) (s : State) :
    (nameSegment n m s).holdLine = s.holdLine := rfl

@[simp] theorem nameSegment_feeds (n m : Nat) (s : State) :
    (nameSegment n m s).feeds = s.feeds := rfl

@[simp] theorem nameSegment_port (n m : Nat) (s : State) :
    (nameSegment n m s).port = s.port := rfl

@[simp] theorem nameSegment_handedUnits (n m : Nat) (s : State) :
    (nameSegment n m s).handedUnits = s.handedUnits := rfl

@[simp] theorem nameSegment_handedFrames (n m : Nat) (s : State) :
    (nameSegment n m s).handedFrames = s.handedFrames := rfl

@[simp] theorem nameSegment_contexts (n m : Nat) (s : State) :
    (nameSegment n m s).contexts = s.contexts := rfl

@[simp] theorem nameSegment_smc (n m : Nat) (s : State) :
    (nameSegment n m s).smc = s.smc := rfl

@[simp] theorem nameSegment_rings (n m : Nat) (s : State) :
    (nameSegment n m s).rings = s.rings := rfl

@[simp] theorem nameSegment_placed (n m : Nat) (s : State) :
    (nameSegment n m s).placed = s.placed := rfl

@[simp] theorem nameSegment_clips (n m : Nat) (s : State) :
    (nameSegment n m s).clips = s.clips := rfl

@[simp] theorem nameSegment_bu_step (n m : Nat) (s : State) :
    (nameSegment n m s).bu.step = s.bu.step := rfl

@[simp] theorem nameSegment_bu_durA (n m : Nat) (s : State) :
    (nameSegment n m s).bu.durA = s.bu.durA := rfl

@[simp] theorem nameSegment_bu_durB (n m : Nat) (s : State) :
    (nameSegment n m s).bu.durB = s.bu.durB := rfl

@[simp] theorem nameSegment_bu_serial (n m : Nat) (s : State) :
    (nameSegment n m s).bu.serial = s.bu.serial := rfl

@[simp] theorem nameSegment_bu_counters (n m : Nat) (s : State) :
    (nameSegment n m s).bu.counters = s.bu.counters := rfl

@[simp] theorem nameSegment_sw (n m : Nat) (s : State) :
    (nameSegment n m s).sw = s.sw := rfl

@[simp] theorem nameSegment_fw (n m : Nat) (s : State) :
    (nameSegment n m s).fw = s.fw := rfl

@[simp] theorem nameSegment_mu (n m : Nat) (s : State) :
    (nameSegment n m s).mu = s.mu := rfl

@[simp] theorem nameSegment_nextSerial (n m : Nat) (s : State) :
    (nameSegment n m s).nextSerial = s.nextSerial := rfl

@[simp] theorem nameSegment_pending (n m : Nat) (s : State) :
    (nameSegment n m s).pending = s.pending := rfl

@[simp] theorem nameSegment_bu_queue (n m : Nat) (s : State) :
    (nameSegment n m s).bu.queue = s.bu.queue.map (fun r => if r.frame = n then { r with segment := m } else r) := rfl

@[simp] theorem nameSegment_feed (n m : Nat) (s : State) (x : FeedNo) :
    (nameSegment n m s).feed x = s.feed x := rfl

@[simp] theorem nameSegment_clip (n m : Nat) (s : State) (x : ClipNo) :
    (nameSegment n m s).clip x = s.clip x := rfl

@[simp] theorem nameSegment_contextsOf (n m : Nat) (s : State) (x : FeedNo) :
    (nameSegment n m s).contextsOf x = s.contextsOf x := rfl

@[simp] theorem nameSegment_ring (n m : Nat) (s : State) (x : FeedNo) :
    (nameSegment n m s).ring x = s.ring x := rfl

@[simp] theorem nameSegment_holding (n m : Nat) (s : State) (x : FeedNo) :
    (nameSegment n m s).holding x = s.holding x := rfl

@[simp] theorem nameSegment_flagsOf (n m : Nat) (s : State) (x : FeedNo) :
    (nameSegment n m s).flagsOf x = s.flagsOf x := rfl

@[simp] theorem nameSegment_watchEntry (n m : Nat) (s : State) (x : FeedNo) :
    (nameSegment n m s).watchEntry x = s.watchEntry x := rfl

/-! ### A table read after a write -/

theorem modFeed_feed (f x : FeedNo) (g : Feed → Feed) (s : State) :
    (modFeed f g s).feed x = if x = f then g (s.feed f) else s.feed x := by
  simp only [modFeed, State.feed, Fin.getElem_fin, Vector.getElem_set, Fin.ext_iff]
  split <;> split <;> first | rfl | omega

@[simp] theorem modFeed_feed_self (f : FeedNo) (g : Feed → Feed) (s : State) :
    (modFeed f g s).feed f = g (s.feed f) := by
  rw [modFeed_feed, if_pos rfl]

@[simp] theorem modFeed_feed_other (f x : FeedNo) (g : Feed → Feed) (s : State) (h : x ≠ f) :
    (modFeed f g s).feed x = s.feed x := by
  rw [modFeed_feed, if_neg h]

theorem modClip_clip (f x : ClipNo) (g : Clip → Clip) (s : State) :
    (modClip f g s).clip x = if x = f then g (s.clip f) else s.clip x := by
  simp only [modClip, State.clip, Fin.getElem_fin, Vector.getElem_set, Fin.ext_iff]
  split <;> split <;> first | rfl | omega

@[simp] theorem modClip_clip_self (f : ClipNo) (g : Clip → Clip) (s : State) :
    (modClip f g s).clip f = g (s.clip f) := by
  rw [modClip_clip, if_pos rfl]

@[simp] theorem modClip_clip_other (f x : ClipNo) (g : Clip → Clip) (s : State) (h : x ≠ f) :
    (modClip f g s).clip x = s.clip x := by
  rw [modClip_clip, if_neg h]

theorem setContexts_contextsOf (f x : FeedNo) (cs : List Context) (s : State) :
    (setContexts f cs s).contextsOf x = if x = f then cs else s.contextsOf x := by
  simp only [setContexts, State.contextsOf, Fin.getElem_fin, Vector.getElem_set, Fin.ext_iff]
  split <;> split <;> first | rfl | omega

@[simp] theorem setContexts_contextsOf_self (f : FeedNo) (cs : List Context) (s : State) :
    (setContexts f cs s).contextsOf f = cs := by
  rw [setContexts_contextsOf, if_pos rfl]

@[simp] theorem setContexts_contextsOf_other (f x : FeedNo) (cs : List Context) (s : State) (h : x ≠ f) :
    (setContexts f cs s).contextsOf x = s.contextsOf x := by
  rw [setContexts_contextsOf, if_neg h]

theorem setRing_ring (f x : FeedNo) (r : List RingEntry) (s : State) :
    (setRing f r s).ring x = if x = f then r else s.ring x := by
  simp only [setRing, State.ring, Fin.getElem_fin, Vector.getElem_set, Fin.ext_iff]
  split <;> split <;> first | rfl | omega

@[simp] theorem setRing_ring_self (f : FeedNo) (r : List RingEntry) (s : State) :
    (setRing f r s).ring f = r := by
  rw [setRing_ring, if_pos rfl]

@[simp] theorem setRing_ring_other (f x : FeedNo) (r : List RingEntry) (s : State) (h : x ≠ f) :
    (setRing f r s).ring x = s.ring x := by
  rw [setRing_ring, if_neg h]

theorem setHolding_holding (f x : FeedNo) (n : Nat) (s : State) :
    (setHolding f n s).holding x = if x = f then n else s.holding x := by
  simp only [setHolding, State.holding, Fin.getElem_fin, Vector.getElem_set, Fin.ext_iff]
  split <;> split <;> first | rfl | omega

@[simp] theorem setHolding_holding_self (f : FeedNo) (n : Nat) (s : State) :
    (setHolding f n s).holding f = n := by
  rw [setHolding_holding, if_pos rfl]

@[simp] theorem setHolding_holding_other (f x : FeedNo) (n : Nat) (s : State) (h : x ≠ f) :
    (setHolding f n s).holding x = s.holding x := by
  rw [setHolding_holding, if_neg h]

theorem setWatchEntry_watchEntry (f x : FeedNo) (e : WatchEntry) (s : State) :
    (setWatchEntry f e s).watchEntry x = if x = f then e else s.watchEntry x := by
  simp only [setWatchEntry, State.watchEntry, Fin.getElem_fin, Vector.getElem_set, Fin.ext_iff]
  split <;> split <;> first | rfl | omega

@[simp] theorem setWatchEntry_watchEntry_self (f : FeedNo) (e : WatchEntry) (s : State) :
    (setWatchEntry f e s).watchEntry f = e := by
  rw [setWatchEntry_watchEntry, if_pos rfl]

@[simp] theorem setWatchEntry_watchEntry_other (f x : FeedNo) (e : WatchEntry) (s : State) (h : x ≠ f) :
    (setWatchEntry f e s).watchEntry x = s.watchEntry x := by
  rw [setWatchEntry_watchEntry, if_neg h]

theorem setFeedFlags_flagsOf (f x : FeedNo) (b : BitVec 5) (s : State) :
    (setFeedFlags f b s).flagsOf x = if x = f then b else s.flagsOf x := by
  simp only [setFeedFlags, State.flagsOf, Fin.getElem_fin, Vector.getElem_set, Fin.ext_iff]
  split <;> split <;> first | rfl | omega

@[simp] theorem setFeedFlags_flagsOf_self (f : FeedNo) (b : BitVec 5) (s : State) :
    (setFeedFlags f b s).flagsOf f = b := by
  rw [setFeedFlags_flagsOf, if_pos rfl]

@[simp] theorem setFeedFlags_flagsOf_other (f x : FeedNo) (b : BitVec 5) (s : State) (h : x ≠ f) :
    (setFeedFlags f b s).flagsOf x = s.flagsOf x := by
  rw [setFeedFlags_flagsOf, if_neg h]

end Sys2Proof.Machine
end

