-- ==== Sys2Proof/Laws/Ops.lean ====
section
/-! SUPPORT. The frames of the shared operations of Machine/Ops.lean and Machine/Queue.lean: every field that an
operation leaves as it was. Each frame is one theorem; simp takes it as one rule per field. A rule that
ends in `_unmet` holds where no notice can meet a join (`joined` is absent): to carry it through several
operations, simp needs a `maxDischargeDepth` above their number. -/

namespace Sys2Proof.Machine

set_option Elab.async false

/-- What yieldPlace leaves as it was. -/
@[simp] theorem yieldPlace_frame (s : State) :
    (yieldPlace s).wall = s.wall ∧ (yieldPlace s).resetLine = s.resetLine ∧
    (yieldPlace s).contribCarrier = s.contribCarrier ∧ (yieldPlace s).storCarrier = s.storCarrier ∧
    (yieldPlace s).holdLine = s.holdLine ∧ (yieldPlace s).feeds = s.feeds ∧
    (yieldPlace s).port = s.port ∧ (yieldPlace s).handedUnits = s.handedUnits ∧
    (yieldPlace s).handedFrames = s.handedFrames ∧ (yieldPlace s).contexts = s.contexts ∧
    (yieldPlace s).smc = s.smc ∧ (yieldPlace s).rings = s.rings ∧ (yieldPlace s).placed = s.placed ∧
    (yieldPlace s).clips = s.clips ∧ (yieldPlace s).bu = s.bu ∧ (yieldPlace s).sw = s.sw ∧
    (yieldPlace s).fw = s.fw ∧ (yieldPlace s).mu.origins = s.mu.origins ∧
    (yieldPlace s).mu.address = s.mu.address ∧ (yieldPlace s).mu.devFlags = s.mu.devFlags ∧
    (yieldPlace s).mu.feedFlags = s.mu.feedFlags ∧
    (yieldPlace s).mu.refusedOrigin = s.mu.refusedOrigin ∧
    (yieldPlace s).mu.malformedRequests = s.mu.malformedRequests ∧
    (yieldPlace s).mu.requestsDropped = s.mu.requestsDropped ∧
    (yieldPlace s).mu.noticesUnsent = s.mu.noticesUnsent ∧
    (yieldPlace s).mu.lastSent = s.mu.lastSent ∧ (yieldPlace s).mu.sent = s.mu.sent ∧
    (yieldPlace s).nextSerial = s.nextSerial ∧ (yieldPlace s).pending = s.pending ∧
    (∀ z : FeedNo, (yieldPlace s).feed z = s.feed z) ∧
    (∀ z : ClipNo, (yieldPlace s).clip z = s.clip z) ∧
    (∀ z : FeedNo, (yieldPlace s).contextsOf z = s.contextsOf z) ∧
    (∀ z : FeedNo, (yieldPlace s).ring z = s.ring z) ∧
    (∀ z : FeedNo, (yieldPlace s).holding z = s.holding z) ∧
    (∀ z : FeedNo, (yieldPlace s).flagsOf z = s.flagsOf z) ∧
    (∀ z : FeedNo, (yieldPlace s).watchEntry z = s.watchEntry z) := by
  unfold yieldPlace; (repeat' split) <;> simp

/-- With no join to meet, what yieldPlace leaves of the requests and the waiting response. -/
@[simp] theorem yieldPlace_unmet (s : State) (hj : s.mu.joined = none) :
    (yieldPlace s).mu.joined = none ∧ (yieldPlace s).mu.requests = s.mu.requests ∧
    (yieldPlace s).mu.waiting = s.mu.waiting ∧ (yieldPlace s).mu.resetDue = s.mu.resetDue := by
  simp [yieldPlace, joinMet, hj]

/-- What offerNotice leaves as it was. -/
@[simp] theorem offerNotice_frame (x : Addr) (k : NoticeKind) (i d : Nat) (s : State) :
    (offerNotice x k i d s).wall = s.wall ∧ (offerNotice x k i d s).resetLine = s.resetLine ∧
    (offerNotice x k i d s).contribCarrier = s.contribCarrier ∧
    (offerNotice x k i d s).storCarrier = s.storCarrier ∧
    (offerNotice x k i d s).holdLine = s.holdLine ∧ (offerNotice x k i d s).feeds = s.feeds ∧
    (offerNotice x k i d s).port = s.port ∧ (offerNotice x k i d s).handedUnits = s.handedUnits ∧
    (offerNotice x k i d s).handedFrames = s.handedFrames ∧
    (offerNotice x k i d s).contexts = s.contexts ∧ (offerNotice x k i d s).smc = s.smc ∧
    (offerNotice x k i d s).rings = s.rings ∧ (offerNotice x k i d s).placed = s.placed ∧
    (offerNotice x k i d s).clips = s.clips ∧ (offerNotice x k i d s).bu = s.bu ∧
    (offerNotice x k i d s).sw = s.sw ∧ (offerNotice x k i d s).fw = s.fw ∧
    (offerNotice x k i d s).mu.origins = s.mu.origins ∧
    (offerNotice x k i d s).mu.address = s.mu.address ∧
    (offerNotice x k i d s).mu.requests = s.mu.requests ∧
    (offerNotice x k i d s).mu.waiting = s.mu.waiting ∧
    (offerNotice x k i d s).mu.resetDue = s.mu.resetDue ∧
    (offerNotice x k i d s).mu.devFlags = s.mu.devFlags ∧
    (offerNotice x k i d s).mu.feedFlags = s.mu.feedFlags ∧
    (offerNotice x k i d s).mu.refusedOrigin = s.mu.refusedOrigin ∧
    (offerNotice x k i d s).mu.malformedRequests = s.mu.malformedRequests ∧
    (offerNotice x k i d s).mu.requestsDropped = s.mu.requestsDropped ∧
    (offerNotice x k i d s).mu.lastSent = s.mu.lastSent ∧
    (offerNotice x k i d s).mu.sent = s.mu.sent ∧ (offerNotice x k i d s).mu.joined = s.mu.joined ∧
    (offerNotice x k i d s).nextSerial = s.nextSerial ∧
    (offerNotice x k i d s).pending = s.pending ∧
    (∀ z : FeedNo, (offerNotice x k i d s).feed z = s.feed z) ∧
    (∀ z : ClipNo, (offerNotice x k i d s).clip z = s.clip z) ∧
    (∀ z : FeedNo, (offerNotice x k i d s).contextsOf z = s.contextsOf z) ∧
    (∀ z : FeedNo, (offerNotice x k i d s).ring z = s.ring z) ∧
    (∀ z : FeedNo, (offerNotice x k i d s).holding z = s.holding z) ∧
    (∀ z : FeedNo, (offerNotice x k i d s).flagsOf z = s.flagsOf z) ∧
    (∀ z : FeedNo, (offerNotice x k i d s).watchEntry z = s.watchEntry z) := by
  unfold offerNotice; (repeat' split) <;> simp

/-- What notify leaves as it was. -/
@[simp] theorem notify_frame (k : NoticeKind) (i d : Nat) (s : State) :
    (notify k i d s).wall = s.wall ∧ (notify k i d s).resetLine = s.resetLine ∧
    (notify k i d s).contribCarrier = s.contribCarrier ∧
    (notify k i d s).storCarrier = s.storCarrier ∧ (notify k i d s).holdLine = s.holdLine ∧
    (notify k i d s).feeds = s.feeds ∧ (notify k i d s).port = s.port ∧
    (notify k i d s).handedUnits = s.handedUnits ∧ (notify k i d s).handedFrames = s.handedFrames ∧
    (notify k i d s).contexts = s.contexts ∧ (notify k i d s).smc = s.smc ∧
    (notify k i d s).rings = s.rings ∧ (notify k i d s).placed = s.placed ∧
    (notify k i d s).clips = s.clips ∧ (notify k i d s).bu = s.bu ∧ (notify k i d s).sw = s.sw ∧
    (notify k i d s).fw = s.fw ∧ (notify k i d s).mu.origins = s.mu.origins ∧
    (notify k i d s).mu.address = s.mu.address ∧ (notify k i d s).mu.devFlags = s.mu.devFlags ∧
    (notify k i d s).mu.feedFlags = s.mu.feedFlags ∧
    (notify k i d s).mu.refusedOrigin = s.mu.refusedOrigin ∧
    (notify k i d s).mu.malformedRequests = s.mu.malformedRequests ∧
    (notify k i d s).mu.requestsDropped = s.mu.requestsDropped ∧
    (notify k i d s).mu.lastSent = s.mu.lastSent ∧ (notify k i d s).mu.sent = s.mu.sent ∧
    (notify k i d s).nextSerial = s.nextSerial ∧ (notify k i d s).pending = s.pending ∧
    (∀ z : FeedNo, (notify k i d s).feed z = s.feed z) ∧
    (∀ z : ClipNo, (notify k i d s).clip z = s.clip z) ∧
    (∀ z : FeedNo, (notify k i d s).contextsOf z = s.contextsOf z) ∧
    (∀ z : FeedNo, (notify k i d s).ring z = s.ring z) ∧
    (∀ z : FeedNo, (notify k i d s).holding z = s.holding z) ∧
    (∀ z : FeedNo, (notify k i d s).flagsOf z = s.flagsOf z) ∧
    (∀ z : FeedNo, (notify k i d s).watchEntry z = s.watchEntry z) := by
  unfold notify; (repeat' split) <;> simp

/-- With no join to meet, what notify leaves of the requests and the waiting response. -/
@[simp] theorem notify_unmet (k : NoticeKind) (i d : Nat) (s : State) (hj : s.mu.joined = none) :
    (notify k i d s).mu.joined = none ∧ (notify k i d s).mu.requests = s.mu.requests ∧
    (notify k i d s).mu.waiting = s.mu.waiting ∧ (notify k i d s).mu.resetDue = s.mu.resetDue := by
  unfold notify; (repeat' split) <;> simp (maxDischargeDepth := 40) [hj]

/-- What raiseFeed leaves as it was. -/
@[simp] theorem raiseFeed_frame (f : FeedNo) (d : FeedFlag) (s : State) :
    (raiseFeed f d s).wall = s.wall ∧ (raiseFeed f d s).resetLine = s.resetLine ∧
    (raiseFeed f d s).contribCarrier = s.contribCarrier ∧
    (raiseFeed f d s).storCarrier = s.storCarrier ∧ (raiseFeed f d s).holdLine = s.holdLine ∧
    (raiseFeed f d s).feeds = s.feeds ∧ (raiseFeed f d s).port = s.port ∧
    (raiseFeed f d s).handedUnits = s.handedUnits ∧
    (raiseFeed f d s).handedFrames = s.handedFrames ∧ (raiseFeed f d s).contexts = s.contexts ∧
    (raiseFeed f d s).smc = s.smc ∧ (raiseFeed f d s).rings = s.rings ∧
    (raiseFeed f d s).placed = s.placed ∧ (raiseFeed f d s).clips = s.clips ∧
    (raiseFeed f d s).bu = s.bu ∧ (raiseFeed f d s).sw = s.sw ∧ (raiseFeed f d s).fw = s.fw ∧
    (raiseFeed f d s).mu.origins = s.mu.origins ∧ (raiseFeed f d s).mu.address = s.mu.address ∧
    (raiseFeed f d s).mu.requests = s.mu.requests ∧ (raiseFeed f d s).mu.waiting = s.mu.waiting ∧
    (raiseFeed f d s).mu.resetDue = s.mu.resetDue ∧ (raiseFeed f d s).mu.tx = s.mu.tx ∧
    (raiseFeed f d s).mu.devFlags = s.mu.devFlags ∧
    (raiseFeed f d s).mu.refusedOrigin = s.mu.refusedOrigin ∧
    (raiseFeed f d s).mu.malformedRequests = s.mu.malformedRequests ∧
    (raiseFeed f d s).mu.requestsDropped = s.mu.requestsDropped ∧
    (raiseFeed f d s).mu.noticesUnsent = s.mu.noticesUnsent ∧
    (raiseFeed f d s).mu.lastSent = s.mu.lastSent ∧ (raiseFeed f d s).mu.sent = s.mu.sent ∧
    (raiseFeed f d s).mu.joined = s.mu.joined ∧ (raiseFeed f d s).nextSerial = s.nextSerial ∧
    (raiseFeed f d s).pending = s.pending ∧ (∀ z : FeedNo, (raiseFeed f d s).feed z = s.feed z) ∧
    (∀ z : ClipNo, (raiseFeed f d s).clip z = s.clip z) ∧
    (∀ z : FeedNo, (raiseFeed f d s).contextsOf z = s.contextsOf z) ∧
    (∀ z : FeedNo, (raiseFeed f d s).ring z = s.ring z) ∧
    (∀ z : FeedNo, (raiseFeed f d s).holding z = s.holding z) ∧
    (∀ z : FeedNo, (raiseFeed f d s).watchEntry z = s.watchEntry z) := by
  simp [raiseFeed]

/-- What countFeed leaves as it was. -/
@[simp] theorem countFeed_frame (f : FeedNo) (g : FeedCounters → FeedCounters) (s : State) :
    (countFeed f g s).wall = s.wall ∧ (countFeed f g s).resetLine = s.resetLine ∧
    (countFeed f g s).contribCarrier = s.contribCarrier ∧
    (countFeed f g s).storCarrier = s.storCarrier ∧ (countFeed f g s).holdLine = s.holdLine ∧
    (countFeed f g s).port = s.port ∧ (countFeed f g s).handedUnits = s.handedUnits ∧
    (countFeed f g s).handedFrames = s.handedFrames ∧ (countFeed f g s).contexts = s.contexts ∧
    (countFeed f g s).smc = s.smc ∧ (countFeed f g s).rings = s.rings ∧
    (countFeed f g s).placed = s.placed ∧ (countFeed f g s).clips = s.clips ∧
    (countFeed f g s).bu = s.bu ∧ (countFeed f g s).sw = s.sw ∧ (countFeed f g s).fw = s.fw ∧
    (countFeed f g s).mu = s.mu ∧ (countFeed f g s).nextSerial = s.nextSerial ∧
    (countFeed f g s).pending = s.pending ∧ (∀ z : ClipNo, (countFeed f g s).clip z = s.clip z) ∧
    (∀ z : FeedNo, (countFeed f g s).contextsOf z = s.contextsOf z) ∧
    (∀ z : FeedNo, (countFeed f g s).ring z = s.ring z) ∧
    (∀ z : FeedNo, (countFeed f g s).holding z = s.holding z) ∧
    (∀ z : FeedNo, (countFeed f g s).flagsOf z = s.flagsOf z) ∧
    (∀ z : FeedNo, (countFeed f g s).watchEntry z = s.watchEntry z) := by
  simp [countFeed]

/-- What countNotRecording leaves as it was. -/
@[simp] theorem countNotRecording_frame (f : FeedNo) (s : State) :
    (countNotRecording f s).wall = s.wall ∧ (countNotRecording f s).resetLine = s.resetLine ∧
    (countNotRecording f s).contribCarrier = s.contribCarrier ∧
    (countNotRecording f s).storCarrier = s.storCarrier ∧
    (countNotRecording f s).holdLine = s.holdLine ∧ (countNotRecording f s).port = s.port ∧
    (countNotRecording f s).handedUnits = s.handedUnits ∧
    (countNotRecording f s).handedFrames = s.handedFrames ∧
    (countNotRecording f s).contexts = s.contexts ∧ (countNotRecording f s).smc = s.smc ∧
    (countNotRecording f s).rings = s.rings ∧ (countNotRecording f s).placed = s.placed ∧
    (countNotRecording f s).clips = s.clips ∧ (countNotRecording f s).bu = s.bu ∧
    (countNotRecording f s).sw = s.sw ∧ (countNotRecording f s).fw = s.fw ∧
    (countNotRecording f s).mu = s.mu ∧ (countNotRecording f s).nextSerial = s.nextSerial ∧
    (countNotRecording f s).pending = s.pending ∧
    (∀ z : ClipNo, (countNotRecording f s).clip z = s.clip z) ∧
    (∀ z : FeedNo, (countNotRecording f s).contextsOf z = s.contextsOf z) ∧
    (∀ z : FeedNo, (countNotRecording f s).ring z = s.ring z) ∧
    (∀ z : FeedNo, (countNotRecording f s).holding z = s.holding z) ∧
    (∀ z : FeedNo, (countNotRecording f s).flagsOf z = s.flagsOf z) ∧
    (∀ z : FeedNo, (countNotRecording f s).watchEntry z = s.watchEntry z) := by
  simp [countNotRecording]

/-- What applyPending leaves as it was. -/
@[simp] theorem applyPending_frame (f : FeedNo) (s : State) :
    (applyPending f s).wall = s.wall ∧ (applyPending f s).resetLine = s.resetLine ∧
    (applyPending f s).contribCarrier = s.contribCarrier ∧
    (applyPending f s).storCarrier = s.storCarrier ∧ (applyPending f s).holdLine = s.holdLine ∧
    (applyPending f s).port = s.port ∧ (applyPending f s).handedUnits = s.handedUnits ∧
    (applyPending f s).handedFrames = s.handedFrames ∧ (applyPending f s).contexts = s.contexts ∧
    (applyPending f s).smc = s.smc ∧ (applyPending f s).rings = s.rings ∧
    (applyPending f s).placed = s.placed ∧ (applyPending f s).clips = s.clips ∧
    (applyPending f s).bu = s.bu ∧ (applyPending f s).sw = s.sw ∧ (applyPending f s).fw = s.fw ∧
    (applyPending f s).mu = s.mu ∧ (applyPending f s).nextSerial = s.nextSerial ∧
    (applyPending f s).pending = s.pending ∧ (∀ z : ClipNo, (applyPending f s).clip z = s.clip z) ∧
    (∀ z : FeedNo, (applyPending f s).contextsOf z = s.contextsOf z) ∧
    (∀ z : FeedNo, (applyPending f s).ring z = s.ring z) ∧
    (∀ z : FeedNo, (applyPending f s).holding z = s.holding z) ∧
    (∀ z : FeedNo, (applyPending f s).flagsOf z = s.flagsOf z) ∧
    (∀ z : FeedNo, (applyPending f s).watchEntry z = s.watchEntry z) := by
  simp [applyPending]

/-- What modCursor leaves as it was. -/
@[simp] theorem modCursor_frame (c : ClipNo) (g : Cursor → Cursor) (s : State) :
    (modCursor c g s).wall = s.wall ∧ (modCursor c g s).resetLine = s.resetLine ∧
    (modCursor c g s).contribCarrier = s.contribCarrier ∧
    (modCursor c g s).storCarrier = s.storCarrier ∧ (modCursor c g s).holdLine = s.holdLine ∧
    (modCursor c g s).feeds = s.feeds ∧ (modCursor c g s).port = s.port ∧
    (modCursor c g s).handedUnits = s.handedUnits ∧
    (modCursor c g s).handedFrames = s.handedFrames ∧ (modCursor c g s).contexts = s.contexts ∧
    (modCursor c g s).smc = s.smc ∧ (modCursor c g s).rings = s.rings ∧
    (modCursor c g s).placed = s.placed ∧ (modCursor c g s).bu = s.bu ∧
    (modCursor c g s).sw = s.sw ∧ (modCursor c g s).fw = s.fw ∧ (modCursor c g s).mu = s.mu ∧
    (modCursor c g s).nextSerial = s.nextSerial ∧ (modCursor c g s).pending = s.pending ∧
    (∀ z : FeedNo, (modCursor c g s).feed z = s.feed z) ∧
    (∀ z : FeedNo, (modCursor c g s).contextsOf z = s.contextsOf z) ∧
    (∀ z : FeedNo, (modCursor c g s).ring z = s.ring z) ∧
    (∀ z : FeedNo, (modCursor c g s).holding z = s.holding z) ∧
    (∀ z : FeedNo, (modCursor c g s).flagsOf z = s.flagsOf z) ∧
    (∀ z : FeedNo, (modCursor c g s).watchEntry z = s.watchEntry z) := by
  simp [modCursor]

/-- What setFeedState leaves as it was. -/
@[simp] theorem setFeedState_frame (f : FeedNo) (st : FeedState) (s : State) :
    (setFeedState f st s).wall = s.wall ∧ (setFeedState f st s).resetLine = s.resetLine ∧
    (setFeedState f st s).contribCarrier = s.contribCarrier ∧
    (setFeedState f st s).storCarrier = s.storCarrier ∧
    (setFeedState f st s).holdLine = s.holdLine ∧ (setFeedState f st s).port = s.port ∧
    (setFeedState f st s).handedUnits = s.handedUnits ∧
    (setFeedState f st s).handedFrames = s.handedFrames ∧
    (setFeedState f st s).contexts = s.contexts ∧ (setFeedState f st s).smc = s.smc ∧
    (setFeedState f st s).rings = s.rings ∧ (setFeedState f st s).placed = s.placed ∧
    (setFeedState f st s).clips = s.clips ∧ (setFeedState f st s).bu = s.bu ∧
    (setFeedState f st s).sw = s.sw ∧ (setFeedState f st s).fw = s.fw ∧
    (setFeedState f st s).mu.origins = s.mu.origins ∧
    (setFeedState f st s).mu.address = s.mu.address ∧
    (setFeedState f st s).mu.devFlags = s.mu.devFlags ∧
    (setFeedState f st s).mu.refusedOrigin = s.mu.refusedOrigin ∧
    (setFeedState f st s).mu.malformedRequests = s.mu.malformedRequests ∧
    (setFeedState f st s).mu.requestsDropped = s.mu.requestsDropped ∧
    (setFeedState f st s).mu.lastSent = s.mu.lastSent ∧ (setFeedState f st s).mu.sent = s.mu.sent ∧
    (setFeedState f st s).nextSerial = s.nextSerial ∧ (setFeedState f st s).pending = s.pending ∧
    (∀ z : ClipNo, (setFeedState f st s).clip z = s.clip z) ∧
    (∀ z : FeedNo, (setFeedState f st s).contextsOf z = s.contextsOf z) ∧
    (∀ z : FeedNo, (setFeedState f st s).ring z = s.ring z) ∧
    (∀ z : FeedNo, (setFeedState f st s).holding z = s.holding z) ∧
    (∀ z : FeedNo, (setFeedState f st s).watchEntry z = s.watchEntry z) := by
  unfold setFeedState; dsimp only; (repeat' split) <;> simp

/-- With no join to meet, what setFeedState leaves of the requests and the waiting response. -/
@[simp] theorem setFeedState_unmet (f : FeedNo) (st : FeedState) (s : State)
    (hj : s.mu.joined = none) :
    (setFeedState f st s).mu.joined = none ∧ (setFeedState f st s).mu.requests = s.mu.requests ∧
    (setFeedState f st s).mu.waiting = s.mu.waiting ∧
    (setFeedState f st s).mu.resetDue = s.mu.resetDue := by
  unfold setFeedState; dsimp only; (repeat' split) <;> simp (maxDischargeDepth := 40) [hj]

/-- What setClipState leaves as it was. -/
@[simp] theorem setClipState_frame (c : ClipNo) (st : ClipState) (s : State) :
    (setClipState c st s).wall = s.wall ∧ (setClipState c st s).resetLine = s.resetLine ∧
    (setClipState c st s).contribCarrier = s.contribCarrier ∧
    (setClipState c st s).storCarrier = s.storCarrier ∧
    (setClipState c st s).holdLine = s.holdLine ∧ (setClipState c st s).feeds = s.feeds ∧
    (setClipState c st s).port = s.port ∧ (setClipState c st s).handedUnits = s.handedUnits ∧
    (setClipState c st s).handedFrames = s.handedFrames ∧
    (setClipState c st s).contexts = s.contexts ∧ (setClipState c st s).smc = s.smc ∧
    (setClipState c st s).rings = s.rings ∧ (setClipState c st s).placed = s.placed ∧
    (setClipState c st s).bu = s.bu ∧ (setClipState c st s).sw = s.sw ∧
    (setClipState c st s).fw = s.fw ∧ (setClipState c st s).mu.origins = s.mu.origins ∧
    (setClipState c st s).mu.address = s.mu.address ∧
    (setClipState c st s).mu.devFlags = s.mu.devFlags ∧
    (setClipState c st s).mu.feedFlags = s.mu.feedFlags ∧
    (setClipState c st s).mu.refusedOrigin = s.mu.refusedOrigin ∧
    (setClipState c st s).mu.malformedRequests = s.mu.malformedRequests ∧
    (setClipState c st s).mu.requestsDropped = s.mu.requestsDropped ∧
    (setClipState c st s).mu.lastSent = s.mu.lastSent ∧ (setClipState c st s).mu.sent = s.mu.sent ∧
    (setClipState c st s).nextSerial = s.nextSerial ∧ (setClipState c st s).pending = s.pending ∧
    (∀ z : FeedNo, (setClipState c st s).feed z = s.feed z) ∧
    (∀ z : FeedNo, (setClipState c st s).contextsOf z = s.contextsOf z) ∧
    (∀ z : FeedNo, (setClipState c st s).ring z = s.ring z) ∧
    (∀ z : FeedNo, (setClipState c st s).holding z = s.holding z) ∧
    (∀ z : FeedNo, (setClipState c st s).flagsOf z = s.flagsOf z) ∧
    (∀ z : FeedNo, (setClipState c st s).watchEntry z = s.watchEntry z) := by
  simp [setClipState]

/-- With no join to meet, what setClipState leaves of the requests and the waiting response. -/
@[simp] theorem setClipState_unmet (c : ClipNo) (st : ClipState) (s : State)
    (hj : s.mu.joined = none) :
    (setClipState c st s).mu.joined = none ∧ (setClipState c st s).mu.requests = s.mu.requests ∧
    (setClipState c st s).mu.waiting = s.mu.waiting ∧
    (setClipState c st s).mu.resetDue = s.mu.resetDue := by
  simp (maxDischargeDepth := 40) [setClipState, hj]

/-- What assertPressure leaves as it was. -/
@[simp] theorem assertPressure_frame (s : State) :
    (assertPressure s).wall = s.wall ∧ (assertPressure s).resetLine = s.resetLine ∧
    (assertPressure s).contribCarrier = s.contribCarrier ∧
    (assertPressure s).storCarrier = s.storCarrier ∧ (assertPressure s).holdLine = s.holdLine ∧
    (assertPressure s).feeds = s.feeds ∧ (assertPressure s).port = s.port ∧
    (assertPressure s).handedUnits = s.handedUnits ∧
    (assertPressure s).handedFrames = s.handedFrames ∧ (assertPressure s).contexts = s.contexts ∧
    (assertPressure s).smc.level = s.smc.level ∧
    (assertPressure s).smc.occupancy = s.smc.occupancy ∧
    (assertPressure s).smc.holdings = s.smc.holdings ∧ (assertPressure s).rings = s.rings ∧
    (assertPressure s).placed = s.placed ∧ (assertPressure s).clips = s.clips ∧
    (assertPressure s).bu = s.bu ∧ (assertPressure s).sw = s.sw ∧ (assertPressure s).fw = s.fw ∧
    (assertPressure s).mu.origins = s.mu.origins ∧ (assertPressure s).mu.address = s.mu.address ∧
    (assertPressure s).mu.feedFlags = s.mu.feedFlags ∧
    (assertPressure s).mu.refusedOrigin = s.mu.refusedOrigin ∧
    (assertPressure s).mu.malformedRequests = s.mu.malformedRequests ∧
    (assertPressure s).mu.requestsDropped = s.mu.requestsDropped ∧
    (assertPressure s).mu.lastSent = s.mu.lastSent ∧ (assertPressure s).mu.sent = s.mu.sent ∧
    (assertPressure s).nextSerial = s.nextSerial ∧ (assertPressure s).pending = s.pending ∧
    (∀ z : FeedNo, (assertPressure s).feed z = s.feed z) ∧
    (∀ z : ClipNo, (assertPressure s).clip z = s.clip z) ∧
    (∀ z : FeedNo, (assertPressure s).contextsOf z = s.contextsOf z) ∧
    (∀ z : FeedNo, (assertPressure s).ring z = s.ring z) ∧
    (∀ z : FeedNo, (assertPressure s).holding z = s.holding z) ∧
    (∀ z : FeedNo, (assertPressure s).flagsOf z = s.flagsOf z) ∧
    (∀ z : FeedNo, (assertPressure s).watchEntry z = s.watchEntry z) := by
  simp (maxDischargeDepth := 40) [assertPressure, State.feed, State.clip, State.contextsOf, State.ring,
    State.holding, State.flagsOf, State.watchEntry]

/-- With no join to meet, what assertPressure leaves of the requests and the waiting response. -/
@[simp] theorem assertPressure_unmet (s : State) (hj : s.mu.joined = none) :
    (assertPressure s).mu.joined = none ∧ (assertPressure s).mu.requests = s.mu.requests ∧
    (assertPressure s).mu.waiting = s.mu.waiting ∧
    (assertPressure s).mu.resetDue = s.mu.resetDue := by
  simp (maxDischargeDepth := 40) [assertPressure, hj]

/-- What releasePressure leaves as it was. -/
@[simp] theorem releasePressure_frame (s : State) :
    (releasePressure s).wall = s.wall ∧ (releasePressure s).resetLine = s.resetLine ∧
    (releasePressure s).contribCarrier = s.contribCarrier ∧
    (releasePressure s).storCarrier = s.storCarrier ∧ (releasePressure s).holdLine = s.holdLine ∧
    (releasePressure s).feeds = s.feeds ∧ (releasePressure s).port = s.port ∧
    (releasePressure s).handedUnits = s.handedUnits ∧
    (releasePressure s).handedFrames = s.handedFrames ∧ (releasePressure s).contexts = s.contexts ∧
    (releasePressure s).smc.level = s.smc.level ∧
    (releasePressure s).smc.occupancy = s.smc.occupancy ∧
    (releasePressure s).smc.holdings = s.smc.holdings ∧
    (releasePressure s).smc.raises = s.smc.raises ∧ (releasePressure s).rings = s.rings ∧
    (releasePressure s).placed = s.placed ∧ (releasePressure s).clips = s.clips ∧
    (releasePressure s).bu = s.bu ∧ (releasePressure s).sw = s.sw ∧ (releasePressure s).fw = s.fw ∧
    (releasePressure s).mu.origins = s.mu.origins ∧ (releasePressure s).mu.address = s.mu.address ∧
    (releasePressure s).mu.feedFlags = s.mu.feedFlags ∧
    (releasePressure s).mu.refusedOrigin = s.mu.refusedOrigin ∧
    (releasePressure s).mu.malformedRequests = s.mu.malformedRequests ∧
    (releasePressure s).mu.requestsDropped = s.mu.requestsDropped ∧
    (releasePressure s).mu.lastSent = s.mu.lastSent ∧ (releasePressure s).mu.sent = s.mu.sent ∧
    (releasePressure s).nextSerial = s.nextSerial ∧ (releasePressure s).pending = s.pending ∧
    (∀ z : FeedNo, (releasePressure s).feed z = s.feed z) ∧
    (∀ z : ClipNo, (releasePressure s).clip z = s.clip z) ∧
    (∀ z : FeedNo, (releasePressure s).contextsOf z = s.contextsOf z) ∧
    (∀ z : FeedNo, (releasePressure s).ring z = s.ring z) ∧
    (∀ z : FeedNo, (releasePressure s).holding z = s.holding z) ∧
    (∀ z : FeedNo, (releasePressure s).flagsOf z = s.flagsOf z) ∧
    (∀ z : FeedNo, (releasePressure s).watchEntry z = s.watchEntry z) := by
  simp (maxDischargeDepth := 40) [releasePressure, State.feed, State.clip, State.contextsOf, State.ring,
    State.holding, State.flagsOf, State.watchEntry]

/-- With no join to meet, what releasePressure leaves of the requests and the waiting response. -/
@[simp] theorem releasePressure_unmet (s : State) (hj : s.mu.joined = none) :
    (releasePressure s).mu.joined = none ∧ (releasePressure s).mu.requests = s.mu.requests ∧
    (releasePressure s).mu.waiting = s.mu.waiting ∧
    (releasePressure s).mu.resetDue = s.mu.resetDue := by
  simp (maxDischargeDepth := 40) [releasePressure, hj]

/-- What grantBlocks leaves as it was. -/
@[simp] theorem grantBlocks_frame (n : Nat) (s : State) :
    (grantBlocks n s).wall = s.wall ∧ (grantBlocks n s).resetLine = s.resetLine ∧
    (grantBlocks n s).contribCarrier = s.contribCarrier ∧
    (grantBlocks n s).storCarrier = s.storCarrier ∧ (grantBlocks n s).holdLine = s.holdLine ∧
    (grantBlocks n s).feeds = s.feeds ∧ (grantBlocks n s).port = s.port ∧
    (grantBlocks n s).handedUnits = s.handedUnits ∧
    (grantBlocks n s).handedFrames = s.handedFrames ∧ (grantBlocks n s).contexts = s.contexts ∧
    (grantBlocks n s).smc.level = s.smc.level ∧ (grantBlocks n s).smc.holdings = s.smc.holdings ∧
    (grantBlocks n s).rings = s.rings ∧ (grantBlocks n s).placed = s.placed ∧
    (grantBlocks n s).clips = s.clips ∧ (grantBlocks n s).bu = s.bu ∧ (grantBlocks n s).sw = s.sw ∧
    (grantBlocks n s).fw = s.fw ∧ (grantBlocks n s).mu.origins = s.mu.origins ∧
    (grantBlocks n s).mu.address = s.mu.address ∧ (grantBlocks n s).mu.feedFlags = s.mu.feedFlags ∧
    (grantBlocks n s).mu.refusedOrigin = s.mu.refusedOrigin ∧
    (grantBlocks n s).mu.malformedRequests = s.mu.malformedRequests ∧
    (grantBlocks n s).mu.requestsDropped = s.mu.requestsDropped ∧
    (grantBlocks n s).mu.lastSent = s.mu.lastSent ∧ (grantBlocks n s).mu.sent = s.mu.sent ∧
    (grantBlocks n s).nextSerial = s.nextSerial ∧ (grantBlocks n s).pending = s.pending ∧
    (∀ z : FeedNo, (grantBlocks n s).feed z = s.feed z) ∧
    (∀ z : ClipNo, (grantBlocks n s).clip z = s.clip z) ∧
    (∀ z : FeedNo, (grantBlocks n s).contextsOf z = s.contextsOf z) ∧
    (∀ z : FeedNo, (grantBlocks n s).ring z = s.ring z) ∧
    (∀ z : FeedNo, (grantBlocks n s).holding z = s.holding z) ∧
    (∀ z : FeedNo, (grantBlocks n s).flagsOf z = s.flagsOf z) ∧
    (∀ z : FeedNo, (grantBlocks n s).watchEntry z = s.watchEntry z) := by
  unfold grantBlocks; dsimp only; (repeat' split) <;> simp (maxDischargeDepth := 40) [State.feed, State.clip, State.contextsOf, State.ring,
    State.holding, State.flagsOf, State.watchEntry]

/-- With no join to meet, what grantBlocks leaves of the requests and the waiting response. -/
@[simp] theorem grantBlocks_unmet (n : Nat) (s : State) (hj : s.mu.joined = none) :
    (grantBlocks n s).mu.joined = none ∧ (grantBlocks n s).mu.requests = s.mu.requests ∧
    (grantBlocks n s).mu.waiting = s.mu.waiting ∧ (grantBlocks n s).mu.resetDue = s.mu.resetDue := by
  unfold grantBlocks; dsimp only; (repeat' split) <;> simp (maxDischargeDepth := 40) [hj]

/-- What returnBlocks leaves as it was. -/
@[simp] theorem returnBlocks_frame (n : Nat) (s : State) :
    (returnBlocks n s).wall = s.wall ∧ (returnBlocks n s).resetLine = s.resetLine ∧
    (returnBlocks n s).contribCarrier = s.contribCarrier ∧
    (returnBlocks n s).storCarrier = s.storCarrier ∧ (returnBlocks n s).holdLine = s.holdLine ∧
    (returnBlocks n s).feeds = s.feeds ∧ (returnBlocks n s).port = s.port ∧
    (returnBlocks n s).handedUnits = s.handedUnits ∧
    (returnBlocks n s).handedFrames = s.handedFrames ∧ (returnBlocks n s).contexts = s.contexts ∧
    (returnBlocks n s).smc.level = s.smc.level ∧ (returnBlocks n s).smc.holdings = s.smc.holdings ∧
    (returnBlocks n s).smc.raises = s.smc.raises ∧ (returnBlocks n s).rings = s.rings ∧
    (returnBlocks n s).placed = s.placed ∧ (returnBlocks n s).clips = s.clips ∧
    (returnBlocks n s).bu = s.bu ∧ (returnBlocks n s).sw = s.sw ∧ (returnBlocks n s).fw = s.fw ∧
    (returnBlocks n s).mu.origins = s.mu.origins ∧ (returnBlocks n s).mu.address = s.mu.address ∧
    (returnBlocks n s).mu.feedFlags = s.mu.feedFlags ∧
    (returnBlocks n s).mu.refusedOrigin = s.mu.refusedOrigin ∧
    (returnBlocks n s).mu.malformedRequests = s.mu.malformedRequests ∧
    (returnBlocks n s).mu.requestsDropped = s.mu.requestsDropped ∧
    (returnBlocks n s).mu.lastSent = s.mu.lastSent ∧ (returnBlocks n s).mu.sent = s.mu.sent ∧
    (returnBlocks n s).nextSerial = s.nextSerial ∧ (returnBlocks n s).pending = s.pending ∧
    (∀ z : FeedNo, (returnBlocks n s).feed z = s.feed z) ∧
    (∀ z : ClipNo, (returnBlocks n s).clip z = s.clip z) ∧
    (∀ z : FeedNo, (returnBlocks n s).contextsOf z = s.contextsOf z) ∧
    (∀ z : FeedNo, (returnBlocks n s).ring z = s.ring z) ∧
    (∀ z : FeedNo, (returnBlocks n s).holding z = s.holding z) ∧
    (∀ z : FeedNo, (returnBlocks n s).flagsOf z = s.flagsOf z) ∧
    (∀ z : FeedNo, (returnBlocks n s).watchEntry z = s.watchEntry z) := by
  unfold returnBlocks; dsimp only; (repeat' split) <;> simp (maxDischargeDepth := 40) [State.feed, State.clip, State.contextsOf, State.ring,
    State.holding, State.flagsOf, State.watchEntry]

/-- With no join to meet, what returnBlocks leaves of the requests and the waiting response. -/
@[simp] theorem returnBlocks_unmet (n : Nat) (s : State) (hj : s.mu.joined = none) :
    (returnBlocks n s).mu.joined = none ∧ (returnBlocks n s).mu.requests = s.mu.requests ∧
    (returnBlocks n s).mu.waiting = s.mu.waiting ∧
    (returnBlocks n s).mu.resetDue = s.mu.resetDue := by
  unfold returnBlocks; dsimp only; (repeat' split) <;> simp (maxDischargeDepth := 40) [hj]

/-- What returnHeld leaves as it was. -/
@[simp] theorem returnHeld_frame (f : FeedNo) (n : Nat) (s : State) :
    (returnHeld f n s).wall = s.wall ∧ (returnHeld f n s).resetLine = s.resetLine ∧
    (returnHeld f n s).contribCarrier = s.contribCarrier ∧
    (returnHeld f n s).storCarrier = s.storCarrier ∧ (returnHeld f n s).holdLine = s.holdLine ∧
    (returnHeld f n s).feeds = s.feeds ∧ (returnHeld f n s).port = s.port ∧
    (returnHeld f n s).handedUnits = s.handedUnits ∧
    (returnHeld f n s).handedFrames = s.handedFrames ∧ (returnHeld f n s).contexts = s.contexts ∧
    (returnHeld f n s).smc.level = s.smc.level ∧ (returnHeld f n s).smc.raises = s.smc.raises ∧
    (returnHeld f n s).rings = s.rings ∧ (returnHeld f n s).placed = s.placed ∧
    (returnHeld f n s).clips = s.clips ∧ (returnHeld f n s).bu = s.bu ∧
    (returnHeld f n s).sw = s.sw ∧ (returnHeld f n s).fw = s.fw ∧
    (returnHeld f n s).mu.origins = s.mu.origins ∧ (returnHeld f n s).mu.address = s.mu.address ∧
    (returnHeld f n s).mu.feedFlags = s.mu.feedFlags ∧
    (returnHeld f n s).mu.refusedOrigin = s.mu.refusedOrigin ∧
    (returnHeld f n s).mu.malformedRequests = s.mu.malformedRequests ∧
    (returnHeld f n s).mu.requestsDropped = s.mu.requestsDropped ∧
    (returnHeld f n s).mu.lastSent = s.mu.lastSent ∧ (returnHeld f n s).mu.sent = s.mu.sent ∧
    (returnHeld f n s).nextSerial = s.nextSerial ∧ (returnHeld f n s).pending = s.pending ∧
    (∀ z : FeedNo, (returnHeld f n s).feed z = s.feed z) ∧
    (∀ z : ClipNo, (returnHeld f n s).clip z = s.clip z) ∧
    (∀ z : FeedNo, (returnHeld f n s).contextsOf z = s.contextsOf z) ∧
    (∀ z : FeedNo, (returnHeld f n s).ring z = s.ring z) ∧
    (∀ z : FeedNo, (returnHeld f n s).flagsOf z = s.flagsOf z) ∧
    (∀ z : FeedNo, (returnHeld f n s).watchEntry z = s.watchEntry z) := by
  simp [returnHeld]

/-- With no join to meet, what returnHeld leaves of the requests and the waiting response. -/
@[simp] theorem returnHeld_unmet (f : FeedNo) (n : Nat) (s : State) (hj : s.mu.joined = none) :
    (returnHeld f n s).mu.joined = none ∧ (returnHeld f n s).mu.requests = s.mu.requests ∧
    (returnHeld f n s).mu.waiting = s.mu.waiting ∧
    (returnHeld f n s).mu.resetDue = s.mu.resetDue := by
  simp (maxDischargeDepth := 40) [returnHeld, hj]

/-- What dropItem leaves as it was. -/
@[simp] theorem dropItem_frame (f : FeedNo) (n : Nat) (s : State) :
    (dropItem f n s).wall = s.wall ∧ (dropItem f n s).resetLine = s.resetLine ∧
    (dropItem f n s).contribCarrier = s.contribCarrier ∧
    (dropItem f n s).storCarrier = s.storCarrier ∧ (dropItem f n s).holdLine = s.holdLine ∧
    (dropItem f n s).port = s.port ∧ (dropItem f n s).handedUnits = s.handedUnits ∧
    (dropItem f n s).handedFrames = s.handedFrames ∧ (dropItem f n s).contexts = s.contexts ∧
    (dropItem f n s).smc.level = s.smc.level ∧ (dropItem f n s).smc.raises = s.smc.raises ∧
    (dropItem f n s).rings = s.rings ∧ (dropItem f n s).placed = s.placed ∧
    (dropItem f n s).clips = s.clips ∧ (dropItem f n s).bu = s.bu ∧ (dropItem f n s).sw = s.sw ∧
    (dropItem f n s).fw = s.fw ∧ (dropItem f n s).mu.origins = s.mu.origins ∧
    (dropItem f n s).mu.address = s.mu.address ∧ (dropItem f n s).mu.feedFlags = s.mu.feedFlags ∧
    (dropItem f n s).mu.refusedOrigin = s.mu.refusedOrigin ∧
    (dropItem f n s).mu.malformedRequests = s.mu.malformedRequests ∧
    (dropItem f n s).mu.requestsDropped = s.mu.requestsDropped ∧
    (dropItem f n s).mu.lastSent = s.mu.lastSent ∧ (dropItem f n s).mu.sent = s.mu.sent ∧
    (dropItem f n s).nextSerial = s.nextSerial ∧ (dropItem f n s).pending = s.pending ∧
    (∀ z : ClipNo, (dropItem f n s).clip z = s.clip z) ∧
    (∀ z : FeedNo, (dropItem f n s).contextsOf z = s.contextsOf z) ∧
    (∀ z : FeedNo, (dropItem f n s).ring z = s.ring z) ∧
    (∀ z : FeedNo, (dropItem f n s).flagsOf z = s.flagsOf z) ∧
    (∀ z : FeedNo, (dropItem f n s).watchEntry z = s.watchEntry z) := by
  simp [dropItem]

/-- With no join to meet, what dropItem leaves of the requests and the waiting response. -/
@[simp] theorem dropItem_unmet (f : FeedNo) (n : Nat) (s : State) (hj : s.mu.joined = none) :
    (dropItem f n s).mu.joined = none ∧ (dropItem f n s).mu.requests = s.mu.requests ∧
    (dropItem f n s).mu.waiting = s.mu.waiting ∧ (dropItem f n s).mu.resetDue = s.mu.resetDue := by
  simp (maxDischargeDepth := 40) [dropItem, hj]

/-- What a run of dropItem over a list leaves as it was. -/
@[simp] theorem dropItem_foldl_frame {α : Type} (l : List α) (f : FeedNo) (k : α → Nat) (s : State) :
    (l.foldl (fun s x => dropItem f (k x) s) s).wall = s.wall ∧
    (l.foldl (fun s x => dropItem f (k x) s) s).resetLine = s.resetLine ∧
    (l.foldl (fun s x => dropItem f (k x) s) s).contribCarrier = s.contribCarrier ∧
    (l.foldl (fun s x => dropItem f (k x) s) s).storCarrier = s.storCarrier ∧
    (l.foldl (fun s x => dropItem f (k x) s) s).holdLine = s.holdLine ∧
    (l.foldl (fun s x => dropItem f (k x) s) s).port = s.port ∧
    (l.foldl (fun s x => dropItem f (k x) s) s).handedUnits = s.handedUnits ∧
    (l.foldl (fun s x => dropItem f (k x) s) s).handedFrames = s.handedFrames ∧
    (l.foldl (fun s x => dropItem f (k x) s) s).contexts = s.contexts ∧
    (l.foldl (fun s x => dropItem f (k x) s) s).smc.level = s.smc.level ∧
    (l.foldl (fun s x => dropItem f (k x) s) s).smc.raises = s.smc.raises ∧
    (l.foldl (fun s x => dropItem f (k x) s) s).rings = s.rings ∧
    (l.foldl (fun s x => dropItem f (k x) s) s).placed = s.placed ∧
    (l.foldl (fun s x => dropItem f (k x) s) s).clips = s.clips ∧
    (l.foldl (fun s x => dropItem f (k x) s) s).bu = s.bu ∧
    (l.foldl (fun s x => dropItem f (k x) s) s).sw = s.sw ∧
    (l.foldl (fun s x => dropItem f (k x) s) s).fw = s.fw ∧
    (l.foldl (fun s x => dropItem f (k x) s) s).mu.origins = s.mu.origins ∧
    (l.foldl (fun s x => dropItem f (k x) s) s).mu.address = s.mu.address ∧
    (l.foldl (fun s x => dropItem f (k x) s) s).mu.feedFlags = s.mu.feedFlags ∧
    (l.foldl (fun s x => dropItem f (k x) s) s).mu.refusedOrigin = s.mu.refusedOrigin ∧
    (l.foldl (fun s x => dropItem f (k x) s) s).mu.malformedRequests = s.mu.malformedRequests ∧
    (l.foldl (fun s x => dropItem f (k x) s) s).mu.requestsDropped = s.mu.requestsDropped ∧
    (l.foldl (fun s x => dropItem f (k x) s) s).mu.lastSent = s.mu.lastSent ∧
    (l.foldl (fun s x => dropItem f (k x) s) s).mu.sent = s.mu.sent ∧
    (l.foldl (fun s x => dropItem f (k x) s) s).nextSerial = s.nextSerial ∧
    (l.foldl (fun s x => dropItem f (k x) s) s).pending = s.pending ∧
    (∀ z : ClipNo, (l.foldl (fun s x => dropItem f (k x) s) s).clip z = s.clip z) ∧
    (∀ z : FeedNo, (l.foldl (fun s x => dropItem f (k x) s) s).contextsOf z = s.contextsOf z) ∧
    (∀ z : FeedNo, (l.foldl (fun s x => dropItem f (k x) s) s).ring z = s.ring z) ∧
    (∀ z : FeedNo, (l.foldl (fun s x => dropItem f (k x) s) s).flagsOf z = s.flagsOf z) ∧
    (∀ z : FeedNo, (l.foldl (fun s x => dropItem f (k x) s) s).watchEntry z = s.watchEntry z) := by
  induction l generalizing s with
  | nil => simp
  | cons x xs ih => simp [ih]

/-- With no join to meet, what a run of dropItem leaves of the requests and the waiting response. -/
@[simp] theorem dropItem_foldl_unmet (l : List α) (f : FeedNo) (k : α → Nat) (s : State)
    (hj : s.mu.joined = none) :
    (l.foldl (fun s x => dropItem f (k x) s) s).mu.joined = none ∧
    (l.foldl (fun s x => dropItem f (k x) s) s).mu.requests = s.mu.requests ∧
    (l.foldl (fun s x => dropItem f (k x) s) s).mu.waiting = s.mu.waiting ∧
    (l.foldl (fun s x => dropItem f (k x) s) s).mu.resetDue = s.mu.resetDue := by
  induction l generalizing s with
  | nil => simp (maxDischargeDepth := 40) [hj]
  | cons x xs ih => simp (maxDischargeDepth := 40) [ih, hj]

/-- What dropWork leaves as it was. -/
@[simp] theorem dropWork_frame (f : FeedNo) (s : State) :
    (dropWork f s).wall = s.wall ∧ (dropWork f s).resetLine = s.resetLine ∧
    (dropWork f s).contribCarrier = s.contribCarrier ∧ (dropWork f s).storCarrier = s.storCarrier ∧
    (dropWork f s).holdLine = s.holdLine ∧ (dropWork f s).port = s.port ∧
    (dropWork f s).smc.level = s.smc.level ∧ (dropWork f s).smc.raises = s.smc.raises ∧
    (dropWork f s).placed = s.placed ∧ (dropWork f s).clips = s.clips ∧ (dropWork f s).bu = s.bu ∧
    (dropWork f s).sw = s.sw ∧ (dropWork f s).fw = s.fw ∧ (dropWork f s).mu.origins = s.mu.origins ∧
    (dropWork f s).mu.address = s.mu.address ∧ (dropWork f s).mu.feedFlags = s.mu.feedFlags ∧
    (dropWork f s).mu.refusedOrigin = s.mu.refusedOrigin ∧
    (dropWork f s).mu.malformedRequests = s.mu.malformedRequests ∧
    (dropWork f s).mu.requestsDropped = s.mu.requestsDropped ∧
    (dropWork f s).mu.lastSent = s.mu.lastSent ∧ (dropWork f s).mu.sent = s.mu.sent ∧
    (dropWork f s).nextSerial = s.nextSerial ∧ (dropWork f s).pending = s.pending ∧
    (∀ z : ClipNo, (dropWork f s).clip z = s.clip z) ∧
    (∀ z : FeedNo, (dropWork f s).flagsOf z = s.flagsOf z) ∧
    (∀ z : FeedNo, (dropWork f s).watchEntry z = s.watchEntry z) := by
  simp (maxDischargeDepth := 40) [dropWork, State.feed, State.clip, State.contextsOf, State.ring,
    State.holding, State.flagsOf, State.watchEntry]

/-- With no join to meet, what dropWork leaves of the requests and the waiting response. -/
@[simp] theorem dropWork_unmet (f : FeedNo) (s : State) (hj : s.mu.joined = none) :
    (dropWork f s).mu.joined = none ∧ (dropWork f s).mu.requests = s.mu.requests ∧
    (dropWork f s).mu.waiting = s.mu.waiting ∧ (dropWork f s).mu.resetDue = s.mu.resetDue := by
  simp (maxDischargeDepth := 40) [dropWork, hj]

/-- What sendOne leaves as it was. -/
@[simp] theorem sendOne_frame (e : WriteEntry) (id : BitVec 8) (s : State) :
    (sendOne e id s).wall = s.wall ∧ (sendOne e id s).resetLine = s.resetLine ∧
    (sendOne e id s).contribCarrier = s.contribCarrier ∧
    (sendOne e id s).storCarrier = s.storCarrier ∧ (sendOne e id s).holdLine = s.holdLine ∧
    (sendOne e id s).feeds = s.feeds ∧ (sendOne e id s).port = s.port ∧
    (sendOne e id s).handedUnits = s.handedUnits ∧ (sendOne e id s).handedFrames = s.handedFrames ∧
    (sendOne e id s).contexts = s.contexts ∧ (sendOne e id s).smc = s.smc ∧
    (sendOne e id s).rings = s.rings ∧ (sendOne e id s).placed = s.placed ∧
    (sendOne e id s).clips = s.clips ∧ (sendOne e id s).bu = s.bu ∧
    (sendOne e id s).sw.settings = s.sw.settings ∧ (sendOne e id s).sw.late = s.sw.late ∧
    (sendOne e id s).sw.retired = s.sw.retired ∧ (sendOne e id s).sw.paused = s.sw.paused ∧
    (sendOne e id s).sw.records = s.sw.records ∧ (sendOne e id s).sw.stray = s.sw.stray ∧
    (sendOne e id s).sw.readies = s.sw.readies ∧ (sendOne e id s).sw.foreign = s.sw.foreign ∧
    (sendOne e id s).sw.lastMessages = s.sw.lastMessages ∧ (sendOne e id s).fw = s.fw ∧
    (sendOne e id s).mu = s.mu ∧ (sendOne e id s).pending = s.pending ∧
    (∀ z : FeedNo, (sendOne e id s).feed z = s.feed z) ∧
    (∀ z : ClipNo, (sendOne e id s).clip z = s.clip z) ∧
    (∀ z : FeedNo, (sendOne e id s).contextsOf z = s.contextsOf z) ∧
    (∀ z : FeedNo, (sendOne e id s).ring z = s.ring z) ∧
    (∀ z : FeedNo, (sendOne e id s).holding z = s.holding z) ∧
    (∀ z : FeedNo, (sendOne e id s).flagsOf z = s.flagsOf z) ∧
    (∀ z : FeedNo, (sendOne e id s).watchEntry z = s.watchEntry z) := by
  simp (maxDischargeDepth := 40) [sendOne, State.feed, State.clip, State.contextsOf, State.ring,
    State.holding, State.flagsOf, State.watchEntry]

/-- What arbiterRun leaves as it was. -/
@[simp] theorem arbiterRun_frame (n : Nat) (s : State) :
    (arbiterRun n s).wall = s.wall ∧ (arbiterRun n s).resetLine = s.resetLine ∧
    (arbiterRun n s).contribCarrier = s.contribCarrier ∧
    (arbiterRun n s).storCarrier = s.storCarrier ∧ (arbiterRun n s).holdLine = s.holdLine ∧
    (arbiterRun n s).feeds = s.feeds ∧ (arbiterRun n s).port = s.port ∧
    (arbiterRun n s).handedUnits = s.handedUnits ∧ (arbiterRun n s).handedFrames = s.handedFrames ∧
    (arbiterRun n s).contexts = s.contexts ∧ (arbiterRun n s).smc = s.smc ∧
    (arbiterRun n s).rings = s.rings ∧ (arbiterRun n s).placed = s.placed ∧
    (arbiterRun n s).clips = s.clips ∧ (arbiterRun n s).bu = s.bu ∧
    (arbiterRun n s).sw.settings = s.sw.settings ∧ (arbiterRun n s).sw.late = s.sw.late ∧
    (arbiterRun n s).sw.retired = s.sw.retired ∧ (arbiterRun n s).sw.paused = s.sw.paused ∧
    (arbiterRun n s).sw.records = s.sw.records ∧ (arbiterRun n s).sw.stray = s.sw.stray ∧
    (arbiterRun n s).sw.readies = s.sw.readies ∧ (arbiterRun n s).sw.foreign = s.sw.foreign ∧
    (arbiterRun n s).sw.lastMessages = s.sw.lastMessages ∧ (arbiterRun n s).fw = s.fw ∧
    (arbiterRun n s).mu = s.mu ∧ (arbiterRun n s).pending = s.pending ∧
    (∀ z : FeedNo, (arbiterRun n s).feed z = s.feed z) ∧
    (∀ z : ClipNo, (arbiterRun n s).clip z = s.clip z) ∧
    (∀ z : FeedNo, (arbiterRun n s).contextsOf z = s.contextsOf z) ∧
    (∀ z : FeedNo, (arbiterRun n s).ring z = s.ring z) ∧
    (∀ z : FeedNo, (arbiterRun n s).holding z = s.holding z) ∧
    (∀ z : FeedNo, (arbiterRun n s).flagsOf z = s.flagsOf z) ∧
    (∀ z : FeedNo, (arbiterRun n s).watchEntry z = s.watchEntry z) := by
  induction n generalizing s with
  | zero => simp (maxDischargeDepth := 40) [arbiterRun, State.feed, State.clip, State.contextsOf, State.ring,
    State.holding, State.flagsOf, State.watchEntry]
  | succ n ih => unfold arbiterRun; (repeat' split) <;> simp (maxDischargeDepth := 40) [ih, State.feed, State.clip, State.contextsOf, State.ring,
    State.holding, State.flagsOf, State.watchEntry]

/-- What arbitrate leaves as it was. -/
@[simp] theorem arbitrate_frame (s : State) :
    (arbitrate s).wall = s.wall ∧ (arbitrate s).resetLine = s.resetLine ∧
    (arbitrate s).contribCarrier = s.contribCarrier ∧ (arbitrate s).storCarrier = s.storCarrier ∧
    (arbitrate s).holdLine = s.holdLine ∧ (arbitrate s).feeds = s.feeds ∧
    (arbitrate s).port = s.port ∧ (arbitrate s).handedUnits = s.handedUnits ∧
    (arbitrate s).handedFrames = s.handedFrames ∧ (arbitrate s).contexts = s.contexts ∧
    (arbitrate s).smc = s.smc ∧ (arbitrate s).rings = s.rings ∧ (arbitrate s).placed = s.placed ∧
    (arbitrate s).clips = s.clips ∧ (arbitrate s).bu = s.bu ∧
    (arbitrate s).sw.settings = s.sw.settings ∧ (arbitrate s).sw.late = s.sw.late ∧
    (arbitrate s).sw.retired = s.sw.retired ∧ (arbitrate s).sw.paused = s.sw.paused ∧
    (arbitrate s).sw.records = s.sw.records ∧ (arbitrate s).sw.stray = s.sw.stray ∧
    (arbitrate s).sw.readies = s.sw.readies ∧ (arbitrate s).sw.foreign = s.sw.foreign ∧
    (arbitrate s).sw.lastMessages = s.sw.lastMessages ∧ (arbitrate s).fw = s.fw ∧
    (arbitrate s).mu = s.mu ∧ (arbitrate s).pending = s.pending ∧
    (∀ z : FeedNo, (arbitrate s).feed z = s.feed z) ∧
    (∀ z : ClipNo, (arbitrate s).clip z = s.clip z) ∧
    (∀ z : FeedNo, (arbitrate s).contextsOf z = s.contextsOf z) ∧
    (∀ z : FeedNo, (arbitrate s).ring z = s.ring z) ∧
    (∀ z : FeedNo, (arbitrate s).holding z = s.holding z) ∧
    (∀ z : FeedNo, (arbitrate s).flagsOf z = s.flagsOf z) ∧
    (∀ z : FeedNo, (arbitrate s).watchEntry z = s.watchEntry z) := by
  simp [arbitrate]

/-- What enqueue leaves as it was. -/
@[simp] theorem enqueue_frame (n : Nat) (cls : WriteClass) (c : ClipNo) (g : Nat) (h : Handle)
    (o len : Nat) (d : WriteData) (s : State) :
    (enqueue n cls c g h o len d s).wall = s.wall ∧
    (enqueue n cls c g h o len d s).resetLine = s.resetLine ∧
    (enqueue n cls c g h o len d s).contribCarrier = s.contribCarrier ∧
    (enqueue n cls c g h o len d s).storCarrier = s.storCarrier ∧
    (enqueue n cls c g h o len d s).holdLine = s.holdLine ∧
    (enqueue n cls c g h o len d s).feeds = s.feeds ∧
    (enqueue n cls c g h o len d s).port = s.port ∧
    (enqueue n cls c g h o len d s).handedUnits = s.handedUnits ∧
    (enqueue n cls c g h o len d s).handedFrames = s.handedFrames ∧
    (enqueue n cls c g h o len d s).contexts = s.contexts ∧
    (enqueue n cls c g h o len d s).smc = s.smc ∧ (enqueue n cls c g h o len d s).rings = s.rings ∧
    (enqueue n cls c g h o len d s).placed = s.placed ∧
    (enqueue n cls c g h o len d s).clips = s.clips ∧ (enqueue n cls c g h o len d s).bu = s.bu ∧
    (enqueue n cls c g h o len d s).sw.settings = s.sw.settings ∧
    (enqueue n cls c g h o len d s).sw.late = s.sw.late ∧
    (enqueue n cls c g h o len d s).sw.retired = s.sw.retired ∧
    (enqueue n cls c g h o len d s).sw.paused = s.sw.paused ∧
    (enqueue n cls c g h o len d s).sw.records = s.sw.records ∧
    (enqueue n cls c g h o len d s).sw.stray = s.sw.stray ∧
    (enqueue n cls c g h o len d s).sw.readies = s.sw.readies ∧
    (enqueue n cls c g h o len d s).sw.foreign = s.sw.foreign ∧
    (enqueue n cls c g h o len d s).sw.lastMessages = s.sw.lastMessages ∧
    (enqueue n cls c g h o len d s).fw = s.fw ∧ (enqueue n cls c g h o len d s).mu = s.mu ∧
    (enqueue n cls c g h o len d s).pending = s.pending ∧
    (∀ z : FeedNo, (enqueue n cls c g h o len d s).feed z = s.feed z) ∧
    (∀ z : ClipNo, (enqueue n cls c g h o len d s).clip z = s.clip z) ∧
    (∀ z : FeedNo, (enqueue n cls c g h o len d s).contextsOf z = s.contextsOf z) ∧
    (∀ z : FeedNo, (enqueue n cls c g h o len d s).ring z = s.ring z) ∧
    (∀ z : FeedNo, (enqueue n cls c g h o len d s).holding z = s.holding z) ∧
    (∀ z : FeedNo, (enqueue n cls c g h o len d s).flagsOf z = s.flagsOf z) ∧
    (∀ z : FeedNo, (enqueue n cls c g h o len d s).watchEntry z = s.watchEntry z) := by
  simp (maxDischargeDepth := 40) [enqueue, State.feed, State.clip, State.contextsOf, State.ring,
    State.holding, State.flagsOf, State.watchEntry]

/-- What settlePlaced leaves as it was. -/
@[simp] theorem settlePlaced_frame (n : Nat) (s : State) :
    (settlePlaced n s).wall = s.wall ∧ (settlePlaced n s).resetLine = s.resetLine ∧
    (settlePlaced n s).contribCarrier = s.contribCarrier ∧
    (settlePlaced n s).storCarrier = s.storCarrier ∧ (settlePlaced n s).holdLine = s.holdLine ∧
    (settlePlaced n s).feeds = s.feeds ∧ (settlePlaced n s).port = s.port ∧
    (settlePlaced n s).handedUnits = s.handedUnits ∧
    (settlePlaced n s).handedFrames = s.handedFrames ∧ (settlePlaced n s).contexts = s.contexts ∧
    (settlePlaced n s).smc.level = s.smc.level ∧ (settlePlaced n s).smc.holdings = s.smc.holdings ∧
    (settlePlaced n s).smc.raises = s.smc.raises ∧ (settlePlaced n s).rings = s.rings ∧
    (settlePlaced n s).clips = s.clips ∧ (settlePlaced n s).bu = s.bu ∧
    (settlePlaced n s).sw = s.sw ∧ (settlePlaced n s).fw = s.fw ∧
    (settlePlaced n s).mu.origins = s.mu.origins ∧ (settlePlaced n s).mu.address = s.mu.address ∧
    (settlePlaced n s).mu.feedFlags = s.mu.feedFlags ∧
    (settlePlaced n s).mu.refusedOrigin = s.mu.refusedOrigin ∧
    (settlePlaced n s).mu.malformedRequests = s.mu.malformedRequests ∧
    (settlePlaced n s).mu.requestsDropped = s.mu.requestsDropped ∧
    (settlePlaced n s).mu.lastSent = s.mu.lastSent ∧ (settlePlaced n s).mu.sent = s.mu.sent ∧
    (settlePlaced n s).nextSerial = s.nextSerial ∧ (settlePlaced n s).pending = s.pending ∧
    (∀ z : FeedNo, (settlePlaced n s).feed z = s.feed z) ∧
    (∀ z : ClipNo, (settlePlaced n s).clip z = s.clip z) ∧
    (∀ z : FeedNo, (settlePlaced n s).contextsOf z = s.contextsOf z) ∧
    (∀ z : FeedNo, (settlePlaced n s).ring z = s.ring z) ∧
    (∀ z : FeedNo, (settlePlaced n s).holding z = s.holding z) ∧
    (∀ z : FeedNo, (settlePlaced n s).flagsOf z = s.flagsOf z) ∧
    (∀ z : FeedNo, (settlePlaced n s).watchEntry z = s.watchEntry z) := by
  unfold settlePlaced; (repeat' split) <;> simp (maxDischargeDepth := 40) [State.feed, State.clip, State.contextsOf, State.ring,
    State.holding, State.flagsOf, State.watchEntry]

/-- With no join to meet, what settlePlaced leaves of the requests and the waiting response. -/
@[simp] theorem settlePlaced_unmet (n : Nat) (s : State) (hj : s.mu.joined = none) :
    (settlePlaced n s).mu.joined = none ∧ (settlePlaced n s).mu.requests = s.mu.requests ∧
    (settlePlaced n s).mu.waiting = s.mu.waiting ∧
    (settlePlaced n s).mu.resetDue = s.mu.resetDue := by
  unfold settlePlaced; (repeat' split) <;> simp (maxDischargeDepth := 40) [hj]

/-- What endEssenceHold leaves as it was. -/
@[simp] theorem endEssenceHold_frame (n : Nat) (s : State) :
    (endEssenceHold n s).wall = s.wall ∧ (endEssenceHold n s).resetLine = s.resetLine ∧
    (endEssenceHold n s).contribCarrier = s.contribCarrier ∧
    (endEssenceHold n s).storCarrier = s.storCarrier ∧ (endEssenceHold n s).holdLine = s.holdLine ∧
    (endEssenceHold n s).feeds = s.feeds ∧ (endEssenceHold n s).port = s.port ∧
    (endEssenceHold n s).handedUnits = s.handedUnits ∧
    (endEssenceHold n s).handedFrames = s.handedFrames ∧
    (endEssenceHold n s).contexts = s.contexts ∧ (endEssenceHold n s).smc.level = s.smc.level ∧
    (endEssenceHold n s).smc.holdings = s.smc.holdings ∧
    (endEssenceHold n s).smc.raises = s.smc.raises ∧ (endEssenceHold n s).rings = s.rings ∧
    (endEssenceHold n s).clips = s.clips ∧ (endEssenceHold n s).bu = s.bu ∧
    (endEssenceHold n s).sw = s.sw ∧ (endEssenceHold n s).fw = s.fw ∧
    (endEssenceHold n s).mu.origins = s.mu.origins ∧
    (endEssenceHold n s).mu.address = s.mu.address ∧
    (endEssenceHold n s).mu.feedFlags = s.mu.feedFlags ∧
    (endEssenceHold n s).mu.refusedOrigin = s.mu.refusedOrigin ∧
    (endEssenceHold n s).mu.malformedRequests = s.mu.malformedRequests ∧
    (endEssenceHold n s).mu.requestsDropped = s.mu.requestsDropped ∧
    (endEssenceHold n s).mu.lastSent = s.mu.lastSent ∧ (endEssenceHold n s).mu.sent = s.mu.sent ∧
    (endEssenceHold n s).nextSerial = s.nextSerial ∧ (endEssenceHold n s).pending = s.pending ∧
    (∀ z : FeedNo, (endEssenceHold n s).feed z = s.feed z) ∧
    (∀ z : ClipNo, (endEssenceHold n s).clip z = s.clip z) ∧
    (∀ z : FeedNo, (endEssenceHold n s).contextsOf z = s.contextsOf z) ∧
    (∀ z : FeedNo, (endEssenceHold n s).ring z = s.ring z) ∧
    (∀ z : FeedNo, (endEssenceHold n s).holding z = s.holding z) ∧
    (∀ z : FeedNo, (endEssenceHold n s).flagsOf z = s.flagsOf z) ∧
    (∀ z : FeedNo, (endEssenceHold n s).watchEntry z = s.watchEntry z) := by
  simp (maxDischargeDepth := 40) [endEssenceHold, State.feed, State.clip, State.contextsOf, State.ring,
    State.holding, State.flagsOf, State.watchEntry]

/-- With no join to meet, what endEssenceHold leaves of the requests and the waiting response. -/
@[simp] theorem endEssenceHold_unmet (n : Nat) (s : State) (hj : s.mu.joined = none) :
    (endEssenceHold n s).mu.joined = none ∧ (endEssenceHold n s).mu.requests = s.mu.requests ∧
    (endEssenceHold n s).mu.waiting = s.mu.waiting ∧
    (endEssenceHold n s).mu.resetDue = s.mu.resetDue := by
  simp (maxDischargeDepth := 40) [endEssenceHold, hj]

/-- What endReductionHold leaves as it was. -/
@[simp] theorem endReductionHold_frame (n : Nat) (s : State) :
    (endReductionHold n s).wall = s.wall ∧ (endReductionHold n s).resetLine = s.resetLine ∧
    (endReductionHold n s).contribCarrier = s.contribCarrier ∧
    (endReductionHold n s).storCarrier = s.storCarrier ∧
    (endReductionHold n s).holdLine = s.holdLine ∧ (endReductionHold n s).feeds = s.feeds ∧
    (endReductionHold n s).port = s.port ∧ (endReductionHold n s).handedUnits = s.handedUnits ∧
    (endReductionHold n s).handedFrames = s.handedFrames ∧
    (endReductionHold n s).contexts = s.contexts ∧ (endReductionHold n s).smc.level = s.smc.level ∧
    (endReductionHold n s).smc.holdings = s.smc.holdings ∧
    (endReductionHold n s).smc.raises = s.smc.raises ∧ (endReductionHold n s).rings = s.rings ∧
    (endReductionHold n s).clips = s.clips ∧ (endReductionHold n s).bu = s.bu ∧
    (endReductionHold n s).sw = s.sw ∧ (endReductionHold n s).fw = s.fw ∧
    (endReductionHold n s).mu.origins = s.mu.origins ∧
    (endReductionHold n s).mu.address = s.mu.address ∧
    (endReductionHold n s).mu.feedFlags = s.mu.feedFlags ∧
    (endReductionHold n s).mu.refusedOrigin = s.mu.refusedOrigin ∧
    (endReductionHold n s).mu.malformedRequests = s.mu.malformedRequests ∧
    (endReductionHold n s).mu.requestsDropped = s.mu.requestsDropped ∧
    (endReductionHold n s).mu.lastSent = s.mu.lastSent ∧
    (endReductionHold n s).mu.sent = s.mu.sent ∧ (endReductionHold n s).nextSerial = s.nextSerial ∧
    (endReductionHold n s).pending = s.pending ∧
    (∀ z : FeedNo, (endReductionHold n s).feed z = s.feed z) ∧
    (∀ z : ClipNo, (endReductionHold n s).clip z = s.clip z) ∧
    (∀ z : FeedNo, (endReductionHold n s).contextsOf z = s.contextsOf z) ∧
    (∀ z : FeedNo, (endReductionHold n s).ring z = s.ring z) ∧
    (∀ z : FeedNo, (endReductionHold n s).holding z = s.holding z) ∧
    (∀ z : FeedNo, (endReductionHold n s).flagsOf z = s.flagsOf z) ∧
    (∀ z : FeedNo, (endReductionHold n s).watchEntry z = s.watchEntry z) := by
  simp (maxDischargeDepth := 40) [endReductionHold, State.feed, State.clip, State.contextsOf, State.ring,
    State.holding, State.flagsOf, State.watchEntry]

/-- With no join to meet, what endReductionHold leaves of the requests and the waiting response. -/
@[simp] theorem endReductionHold_unmet (n : Nat) (s : State) (hj : s.mu.joined = none) :
    (endReductionHold n s).mu.joined = none ∧ (endReductionHold n s).mu.requests = s.mu.requests ∧
    (endReductionHold n s).mu.waiting = s.mu.waiting ∧
    (endReductionHold n s).mu.resetDue = s.mu.resetDue := by
  simp (maxDischargeDepth := 40) [endReductionHold, hj]

/-- What makeReturn leaves as it was. -/
@[simp] theorem makeReturn_frame (n : Nat) (r : LateReturn) (s : State) :
    (makeReturn n r s).wall = s.wall ∧ (makeReturn n r s).resetLine = s.resetLine ∧
    (makeReturn n r s).contribCarrier = s.contribCarrier ∧
    (makeReturn n r s).storCarrier = s.storCarrier ∧ (makeReturn n r s).holdLine = s.holdLine ∧
    (makeReturn n r s).feeds = s.feeds ∧ (makeReturn n r s).port = s.port ∧
    (makeReturn n r s).handedUnits = s.handedUnits ∧
    (makeReturn n r s).handedFrames = s.handedFrames ∧ (makeReturn n r s).contexts = s.contexts ∧
    (makeReturn n r s).smc.level = s.smc.level ∧ (makeReturn n r s).smc.holdings = s.smc.holdings ∧
    (makeReturn n r s).smc.raises = s.smc.raises ∧ (makeReturn n r s).rings = s.rings ∧
    (makeReturn n r s).clips = s.clips ∧ (makeReturn n r s).bu = s.bu ∧
    (makeReturn n r s).sw = s.sw ∧ (makeReturn n r s).fw = s.fw ∧
    (makeReturn n r s).mu.origins = s.mu.origins ∧ (makeReturn n r s).mu.address = s.mu.address ∧
    (makeReturn n r s).mu.feedFlags = s.mu.feedFlags ∧
    (makeReturn n r s).mu.refusedOrigin = s.mu.refusedOrigin ∧
    (makeReturn n r s).mu.malformedRequests = s.mu.malformedRequests ∧
    (makeReturn n r s).mu.requestsDropped = s.mu.requestsDropped ∧
    (makeReturn n r s).mu.lastSent = s.mu.lastSent ∧ (makeReturn n r s).mu.sent = s.mu.sent ∧
    (makeReturn n r s).nextSerial = s.nextSerial ∧ (makeReturn n r s).pending = s.pending ∧
    (∀ z : FeedNo, (makeReturn n r s).feed z = s.feed z) ∧
    (∀ z : ClipNo, (makeReturn n r s).clip z = s.clip z) ∧
    (∀ z : FeedNo, (makeReturn n r s).contextsOf z = s.contextsOf z) ∧
    (∀ z : FeedNo, (makeReturn n r s).ring z = s.ring z) ∧
    (∀ z : FeedNo, (makeReturn n r s).holding z = s.holding z) ∧
    (∀ z : FeedNo, (makeReturn n r s).flagsOf z = s.flagsOf z) ∧
    (∀ z : FeedNo, (makeReturn n r s).watchEntry z = s.watchEntry z) := by
  unfold makeReturn; (repeat' split) <;> simp

/-- With no join to meet, what makeReturn leaves of the requests and the waiting response. -/
@[simp] theorem makeReturn_unmet (n : Nat) (r : LateReturn) (s : State) (hj : s.mu.joined = none) :
    (makeReturn n r s).mu.joined = none ∧ (makeReturn n r s).mu.requests = s.mu.requests ∧
    (makeReturn n r s).mu.waiting = s.mu.waiting ∧
    (makeReturn n r s).mu.resetDue = s.mu.resetDue := by
  unfold makeReturn; (repeat' split) <;> simp (maxDischargeDepth := 40) [hj]

/-- What returnAfterPort leaves as it was. -/
@[simp] theorem returnAfterPort_frame (n : Nat) (r : LateReturn) (s : State) :
    (returnAfterPort n r s).wall = s.wall ∧ (returnAfterPort n r s).resetLine = s.resetLine ∧
    (returnAfterPort n r s).contribCarrier = s.contribCarrier ∧
    (returnAfterPort n r s).storCarrier = s.storCarrier ∧
    (returnAfterPort n r s).holdLine = s.holdLine ∧ (returnAfterPort n r s).feeds = s.feeds ∧
    (returnAfterPort n r s).port = s.port ∧ (returnAfterPort n r s).handedUnits = s.handedUnits ∧
    (returnAfterPort n r s).handedFrames = s.handedFrames ∧
    (returnAfterPort n r s).contexts = s.contexts ∧
    (returnAfterPort n r s).smc.level = s.smc.level ∧
    (returnAfterPort n r s).smc.holdings = s.smc.holdings ∧
    (returnAfterPort n r s).smc.raises = s.smc.raises ∧ (returnAfterPort n r s).rings = s.rings ∧
    (returnAfterPort n r s).clips = s.clips ∧ (returnAfterPort n r s).bu = s.bu ∧
    (returnAfterPort n r s).sw.settings = s.sw.settings ∧
    (returnAfterPort n r s).sw.queue = s.sw.queue ∧
    (returnAfterPort n r s).sw.portQueue = s.sw.portQueue ∧
    (returnAfterPort n r s).sw.lastUsed = s.sw.lastUsed ∧
    (returnAfterPort n r s).sw.retired = s.sw.retired ∧
    (returnAfterPort n r s).sw.paused = s.sw.paused ∧
    (returnAfterPort n r s).sw.records = s.sw.records ∧
    (returnAfterPort n r s).sw.counters = s.sw.counters ∧
    (returnAfterPort n r s).sw.stray = s.sw.stray ∧
    (returnAfterPort n r s).sw.readies = s.sw.readies ∧
    (returnAfterPort n r s).sw.foreign = s.sw.foreign ∧
    (returnAfterPort n r s).sw.lastMessages = s.sw.lastMessages ∧
    (returnAfterPort n r s).fw = s.fw ∧ (returnAfterPort n r s).mu.origins = s.mu.origins ∧
    (returnAfterPort n r s).mu.address = s.mu.address ∧
    (returnAfterPort n r s).mu.feedFlags = s.mu.feedFlags ∧
    (returnAfterPort n r s).mu.refusedOrigin = s.mu.refusedOrigin ∧
    (returnAfterPort n r s).mu.malformedRequests = s.mu.malformedRequests ∧
    (returnAfterPort n r s).mu.requestsDropped = s.mu.requestsDropped ∧
    (returnAfterPort n r s).mu.lastSent = s.mu.lastSent ∧
    (returnAfterPort n r s).mu.sent = s.mu.sent ∧
    (returnAfterPort n r s).nextSerial = s.nextSerial ∧
    (returnAfterPort n r s).pending = s.pending ∧
    (∀ z : FeedNo, (returnAfterPort n r s).feed z = s.feed z) ∧
    (∀ z : ClipNo, (returnAfterPort n r s).clip z = s.clip z) ∧
    (∀ z : FeedNo, (returnAfterPort n r s).contextsOf z = s.contextsOf z) ∧
    (∀ z : FeedNo, (returnAfterPort n r s).ring z = s.ring z) ∧
    (∀ z : FeedNo, (returnAfterPort n r s).holding z = s.holding z) ∧
    (∀ z : FeedNo, (returnAfterPort n r s).flagsOf z = s.flagsOf z) ∧
    (∀ z : FeedNo, (returnAfterPort n r s).watchEntry z = s.watchEntry z) := by
  unfold returnAfterPort; dsimp only; (repeat' split) <;> simp (maxDischargeDepth := 40) [State.feed, State.clip, State.contextsOf, State.ring,
    State.holding, State.flagsOf, State.watchEntry]

/-- With no join to meet, what returnAfterPort leaves of the requests and the waiting response. -/
@[simp] theorem returnAfterPort_unmet (n : Nat) (r : LateReturn) (s : State)
    (hj : s.mu.joined = none) :
    (returnAfterPort n r s).mu.joined = none ∧ (returnAfterPort n r s).mu.requests = s.mu.requests ∧
    (returnAfterPort n r s).mu.waiting = s.mu.waiting ∧
    (returnAfterPort n r s).mu.resetDue = s.mu.resetDue := by
  unfold returnAfterPort; dsimp only; (repeat' split) <;> simp (maxDischargeDepth := 40) [hj]

/-- What releaseData leaves as it was. -/
@[simp] theorem releaseData_frame (e : WriteEntry) (s : State) :
    (releaseData e s).wall = s.wall ∧ (releaseData e s).resetLine = s.resetLine ∧
    (releaseData e s).contribCarrier = s.contribCarrier ∧
    (releaseData e s).storCarrier = s.storCarrier ∧ (releaseData e s).holdLine = s.holdLine ∧
    (releaseData e s).feeds = s.feeds ∧ (releaseData e s).port = s.port ∧
    (releaseData e s).handedUnits = s.handedUnits ∧
    (releaseData e s).handedFrames = s.handedFrames ∧ (releaseData e s).contexts = s.contexts ∧
    (releaseData e s).smc.level = s.smc.level ∧ (releaseData e s).smc.holdings = s.smc.holdings ∧
    (releaseData e s).smc.raises = s.smc.raises ∧ (releaseData e s).rings = s.rings ∧
    (releaseData e s).clips = s.clips ∧ (releaseData e s).bu = s.bu ∧
    (releaseData e s).sw.settings = s.sw.settings ∧ (releaseData e s).sw.queue = s.sw.queue ∧
    (releaseData e s).sw.portQueue = s.sw.portQueue ∧
    (releaseData e s).sw.lastUsed = s.sw.lastUsed ∧ (releaseData e s).sw.retired = s.sw.retired ∧
    (releaseData e s).sw.paused = s.sw.paused ∧ (releaseData e s).sw.records = s.sw.records ∧
    (releaseData e s).sw.counters = s.sw.counters ∧ (releaseData e s).sw.stray = s.sw.stray ∧
    (releaseData e s).sw.readies = s.sw.readies ∧ (releaseData e s).sw.foreign = s.sw.foreign ∧
    (releaseData e s).sw.lastMessages = s.sw.lastMessages ∧ (releaseData e s).fw = s.fw ∧
    (releaseData e s).mu.origins = s.mu.origins ∧ (releaseData e s).mu.address = s.mu.address ∧
    (releaseData e s).mu.feedFlags = s.mu.feedFlags ∧
    (releaseData e s).mu.refusedOrigin = s.mu.refusedOrigin ∧
    (releaseData e s).mu.malformedRequests = s.mu.malformedRequests ∧
    (releaseData e s).mu.requestsDropped = s.mu.requestsDropped ∧
    (releaseData e s).mu.lastSent = s.mu.lastSent ∧ (releaseData e s).mu.sent = s.mu.sent ∧
    (releaseData e s).nextSerial = s.nextSerial ∧ (releaseData e s).pending = s.pending ∧
    (∀ z : FeedNo, (releaseData e s).feed z = s.feed z) ∧
    (∀ z : ClipNo, (releaseData e s).clip z = s.clip z) ∧
    (∀ z : FeedNo, (releaseData e s).contextsOf z = s.contextsOf z) ∧
    (∀ z : FeedNo, (releaseData e s).ring z = s.ring z) ∧
    (∀ z : FeedNo, (releaseData e s).holding z = s.holding z) ∧
    (∀ z : FeedNo, (releaseData e s).flagsOf z = s.flagsOf z) ∧
    (∀ z : FeedNo, (releaseData e s).watchEntry z = s.watchEntry z) := by
  unfold releaseData; (repeat' split) <;> simp

/-- With no join to meet, what releaseData leaves of the requests and the waiting response. -/
@[simp] theorem releaseData_unmet (e : WriteEntry) (s : State) (hj : s.mu.joined = none) :
    (releaseData e s).mu.joined = none ∧ (releaseData e s).mu.requests = s.mu.requests ∧
    (releaseData e s).mu.waiting = s.mu.waiting ∧ (releaseData e s).mu.resetDue = s.mu.resetDue := by
  unfold releaseData; (repeat' split) <;> simp (maxDischargeDepth := 40) [hj]

/-- What setAbortFlag leaves as it was. -/
@[simp] theorem setAbortFlag_frame (cls : WriteClass) (c : ClipNo) (r : AbortReason) (s : State) :
    (setAbortFlag cls c r s).wall = s.wall ∧ (setAbortFlag cls c r s).resetLine = s.resetLine ∧
    (setAbortFlag cls c r s).contribCarrier = s.contribCarrier ∧
    (setAbortFlag cls c r s).storCarrier = s.storCarrier ∧
    (setAbortFlag cls c r s).holdLine = s.holdLine ∧ (setAbortFlag cls c r s).feeds = s.feeds ∧
    (setAbortFlag cls c r s).port = s.port ∧ (setAbortFlag cls c r s).handedUnits = s.handedUnits ∧
    (setAbortFlag cls c r s).handedFrames = s.handedFrames ∧
    (setAbortFlag cls c r s).contexts = s.contexts ∧ (setAbortFlag cls c r s).smc = s.smc ∧
    (setAbortFlag cls c r s).rings = s.rings ∧ (setAbortFlag cls c r s).placed = s.placed ∧
    (setAbortFlag cls c r s).clips = s.clips ∧ (setAbortFlag cls c r s).bu = s.bu ∧
    (setAbortFlag cls c r s).sw.settings = s.sw.settings ∧
    (setAbortFlag cls c r s).sw.queue = s.sw.queue ∧
    (setAbortFlag cls c r s).sw.portQueue = s.sw.portQueue ∧
    (setAbortFlag cls c r s).sw.late = s.sw.late ∧
    (setAbortFlag cls c r s).sw.lastUsed = s.sw.lastUsed ∧
    (setAbortFlag cls c r s).sw.retired = s.sw.retired ∧
    (setAbortFlag cls c r s).sw.paused = s.sw.paused ∧
    (setAbortFlag cls c r s).sw.counters = s.sw.counters ∧
    (setAbortFlag cls c r s).sw.stray = s.sw.stray ∧
    (setAbortFlag cls c r s).sw.readies = s.sw.readies ∧
    (setAbortFlag cls c r s).sw.foreign = s.sw.foreign ∧
    (setAbortFlag cls c r s).sw.lastMessages = s.sw.lastMessages ∧
    (setAbortFlag cls c r s).fw = s.fw ∧ (setAbortFlag cls c r s).mu.origins = s.mu.origins ∧
    (setAbortFlag cls c r s).mu.address = s.mu.address ∧
    (setAbortFlag cls c r s).mu.devFlags = s.mu.devFlags ∧
    (setAbortFlag cls c r s).mu.feedFlags = s.mu.feedFlags ∧
    (setAbortFlag cls c r s).mu.refusedOrigin = s.mu.refusedOrigin ∧
    (setAbortFlag cls c r s).mu.malformedRequests = s.mu.malformedRequests ∧
    (setAbortFlag cls c r s).mu.requestsDropped = s.mu.requestsDropped ∧
    (setAbortFlag cls c r s).mu.lastSent = s.mu.lastSent ∧
    (setAbortFlag cls c r s).mu.sent = s.mu.sent ∧
    (setAbortFlag cls c r s).nextSerial = s.nextSerial ∧
    (setAbortFlag cls c r s).pending = s.pending ∧
    (∀ z : FeedNo, (setAbortFlag cls c r s).feed z = s.feed z) ∧
    (∀ z : ClipNo, (setAbortFlag cls c r s).clip z = s.clip z) ∧
    (∀ z : FeedNo, (setAbortFlag cls c r s).contextsOf z = s.contextsOf z) ∧
    (∀ z : FeedNo, (setAbortFlag cls c r s).ring z = s.ring z) ∧
    (∀ z : FeedNo, (setAbortFlag cls c r s).holding z = s.holding z) ∧
    (∀ z : FeedNo, (setAbortFlag cls c r s).flagsOf z = s.flagsOf z) ∧
    (∀ z : FeedNo, (setAbortFlag cls c r s).watchEntry z = s.watchEntry z) := by
  unfold setAbortFlag; dsimp only; (repeat' split) <;> simp (maxDischargeDepth := 40) [State.feed, State.clip, State.contextsOf, State.ring,
    State.holding, State.flagsOf, State.watchEntry]

/-- With no join to meet, what setAbortFlag leaves of the requests and the waiting response. -/
@[simp] theorem setAbortFlag_unmet (cls : WriteClass) (c : ClipNo) (r : AbortReason) (s : State)
    (hj : s.mu.joined = none) :
    (setAbortFlag cls c r s).mu.joined = none ∧
    (setAbortFlag cls c r s).mu.requests = s.mu.requests ∧
    (setAbortFlag cls c r s).mu.waiting = s.mu.waiting ∧
    (setAbortFlag cls c r s).mu.resetDue = s.mu.resetDue := by
  unfold setAbortFlag; dsimp only; (repeat' split) <;> simp (maxDischargeDepth := 40) [hj]

end Sys2Proof.Machine
end

