-- ==== Sys2Proof/Laws/Reducer.lean ====
section
/-! SUPPORT. The frames of the Browse Unit's operations (Machine/Reducer.lean). -/

namespace Sys2Proof.Machine

set_option Elab.async false

/-- What lateHole leaves as it was. -/
@[simp] theorem lateHole_frame (c : ClipNo) (g p : Nat) (s : State) :
    (lateHole c g p s).wall = s.wall ∧ (lateHole c g p s).resetLine = s.resetLine ∧
    (lateHole c g p s).contribCarrier = s.contribCarrier ∧
    (lateHole c g p s).storCarrier = s.storCarrier ∧ (lateHole c g p s).holdLine = s.holdLine ∧
    (lateHole c g p s).feeds = s.feeds ∧ (lateHole c g p s).port = s.port ∧
    (lateHole c g p s).handedUnits = s.handedUnits ∧
    (lateHole c g p s).handedFrames = s.handedFrames ∧ (lateHole c g p s).contexts = s.contexts ∧
    (lateHole c g p s).smc = s.smc ∧ (lateHole c g p s).rings = s.rings ∧
    (lateHole c g p s).placed = s.placed ∧ (lateHole c g p s).bu.queue = s.bu.queue ∧
    (lateHole c g p s).bu.step = s.bu.step ∧ (lateHole c g p s).bu.durA = s.bu.durA ∧
    (lateHole c g p s).bu.durB = s.bu.durB ∧ (lateHole c g p s).bu.serial = s.bu.serial ∧
    (lateHole c g p s).sw = s.sw ∧ (lateHole c g p s).fw = s.fw ∧ (lateHole c g p s).mu = s.mu ∧
    (lateHole c g p s).nextSerial = s.nextSerial ∧ (lateHole c g p s).pending = s.pending ∧
    (∀ z : FeedNo, (lateHole c g p s).feed z = s.feed z) ∧
    (∀ z : FeedNo, (lateHole c g p s).contextsOf z = s.contextsOf z) ∧
    (∀ z : FeedNo, (lateHole c g p s).ring z = s.ring z) ∧
    (∀ z : FeedNo, (lateHole c g p s).holding z = s.holding z) ∧
    (∀ z : FeedNo, (lateHole c g p s).flagsOf z = s.flagsOf z) ∧
    (∀ z : FeedNo, (lateHole c g p s).watchEntry z = s.watchEntry z) := by
  unfold lateHole; (repeat' split) <;> simp

/-- What a run of endDiscarded over a list leaves as it was. -/
@[simp] theorem endDiscarded_foldl_frame (l : List Reduction) (s : State) :
    (l.foldl (fun s r => endReductionHold r.frame (countBrowse (fun k => { k with discarded := bump k.discarded }) s)) s).wall = s.wall ∧
    (l.foldl (fun s r => endReductionHold r.frame (countBrowse (fun k => { k with discarded := bump k.discarded }) s)) s).resetLine = s.resetLine ∧
    (l.foldl (fun s r => endReductionHold r.frame (countBrowse (fun k => { k with discarded := bump k.discarded }) s)) s).contribCarrier = s.contribCarrier ∧
    (l.foldl (fun s r => endReductionHold r.frame (countBrowse (fun k => { k with discarded := bump k.discarded }) s)) s).storCarrier = s.storCarrier ∧
    (l.foldl (fun s r => endReductionHold r.frame (countBrowse (fun k => { k with discarded := bump k.discarded }) s)) s).holdLine = s.holdLine ∧
    (l.foldl (fun s r => endReductionHold r.frame (countBrowse (fun k => { k with discarded := bump k.discarded }) s)) s).feeds = s.feeds ∧
    (l.foldl (fun s r => endReductionHold r.frame (countBrowse (fun k => { k with discarded := bump k.discarded }) s)) s).port = s.port ∧
    (l.foldl (fun s r => endReductionHold r.frame (countBrowse (fun k => { k with discarded := bump k.discarded }) s)) s).handedUnits = s.handedUnits ∧
    (l.foldl (fun s r => endReductionHold r.frame (countBrowse (fun k => { k with discarded := bump k.discarded }) s)) s).handedFrames = s.handedFrames ∧
    (l.foldl (fun s r => endReductionHold r.frame (countBrowse (fun k => { k with discarded := bump k.discarded }) s)) s).contexts = s.contexts ∧
    (l.foldl (fun s r => endReductionHold r.frame (countBrowse (fun k => { k with discarded := bump k.discarded }) s)) s).smc.level = s.smc.level ∧
    (l.foldl (fun s r => endReductionHold r.frame (countBrowse (fun k => { k with discarded := bump k.discarded }) s)) s).smc.holdings = s.smc.holdings ∧
    (l.foldl (fun s r => endReductionHold r.frame (countBrowse (fun k => { k with discarded := bump k.discarded }) s)) s).smc.raises = s.smc.raises ∧
    (l.foldl (fun s r => endReductionHold r.frame (countBrowse (fun k => { k with discarded := bump k.discarded }) s)) s).rings = s.rings ∧
    (l.foldl (fun s r => endReductionHold r.frame (countBrowse (fun k => { k with discarded := bump k.discarded }) s)) s).clips = s.clips ∧
    (l.foldl (fun s r => endReductionHold r.frame (countBrowse (fun k => { k with discarded := bump k.discarded }) s)) s).bu.queue = s.bu.queue ∧
    (l.foldl (fun s r => endReductionHold r.frame (countBrowse (fun k => { k with discarded := bump k.discarded }) s)) s).bu.step = s.bu.step ∧
    (l.foldl (fun s r => endReductionHold r.frame (countBrowse (fun k => { k with discarded := bump k.discarded }) s)) s).bu.durA = s.bu.durA ∧
    (l.foldl (fun s r => endReductionHold r.frame (countBrowse (fun k => { k with discarded := bump k.discarded }) s)) s).bu.durB = s.bu.durB ∧
    (l.foldl (fun s r => endReductionHold r.frame (countBrowse (fun k => { k with discarded := bump k.discarded }) s)) s).bu.serial = s.bu.serial ∧
    (l.foldl (fun s r => endReductionHold r.frame (countBrowse (fun k => { k with discarded := bump k.discarded }) s)) s).sw = s.sw ∧
    (l.foldl (fun s r => endReductionHold r.frame (countBrowse (fun k => { k with discarded := bump k.discarded }) s)) s).fw = s.fw ∧
    (l.foldl (fun s r => endReductionHold r.frame (countBrowse (fun k => { k with discarded := bump k.discarded }) s)) s).mu.origins = s.mu.origins ∧
    (l.foldl (fun s r => endReductionHold r.frame (countBrowse (fun k => { k with discarded := bump k.discarded }) s)) s).mu.address = s.mu.address ∧
    (l.foldl (fun s r => endReductionHold r.frame (countBrowse (fun k => { k with discarded := bump k.discarded }) s)) s).mu.feedFlags = s.mu.feedFlags ∧
    (l.foldl (fun s r => endReductionHold r.frame (countBrowse (fun k => { k with discarded := bump k.discarded }) s)) s).mu.refusedOrigin = s.mu.refusedOrigin ∧
    (l.foldl (fun s r => endReductionHold r.frame (countBrowse (fun k => { k with discarded := bump k.discarded }) s)) s).mu.malformedRequests = s.mu.malformedRequests ∧
    (l.foldl (fun s r => endReductionHold r.frame (countBrowse (fun k => { k with discarded := bump k.discarded }) s)) s).mu.requestsDropped = s.mu.requestsDropped ∧
    (l.foldl (fun s r => endReductionHold r.frame (countBrowse (fun k => { k with discarded := bump k.discarded }) s)) s).mu.lastSent = s.mu.lastSent ∧
    (l.foldl (fun s r => endReductionHold r.frame (countBrowse (fun k => { k with discarded := bump k.discarded }) s)) s).mu.sent = s.mu.sent ∧
    (l.foldl (fun s r => endReductionHold r.frame (countBrowse (fun k => { k with discarded := bump k.discarded }) s)) s).nextSerial = s.nextSerial ∧
    (l.foldl (fun s r => endReductionHold r.frame (countBrowse (fun k => { k with discarded := bump k.discarded }) s)) s).pending = s.pending ∧
    (∀ z : FeedNo, (l.foldl (fun s r => endReductionHold r.frame (countBrowse (fun k => { k with discarded := bump k.discarded }) s)) s).feed z = s.feed z) ∧
    (∀ z : ClipNo, (l.foldl (fun s r => endReductionHold r.frame (countBrowse (fun k => { k with discarded := bump k.discarded }) s)) s).clip z = s.clip z) ∧
    (∀ z : FeedNo, (l.foldl (fun s r => endReductionHold r.frame (countBrowse (fun k => { k with discarded := bump k.discarded }) s)) s).contextsOf z = s.contextsOf z) ∧
    (∀ z : FeedNo, (l.foldl (fun s r => endReductionHold r.frame (countBrowse (fun k => { k with discarded := bump k.discarded }) s)) s).ring z = s.ring z) ∧
    (∀ z : FeedNo, (l.foldl (fun s r => endReductionHold r.frame (countBrowse (fun k => { k with discarded := bump k.discarded }) s)) s).holding z = s.holding z) ∧
    (∀ z : FeedNo, (l.foldl (fun s r => endReductionHold r.frame (countBrowse (fun k => { k with discarded := bump k.discarded }) s)) s).flagsOf z = s.flagsOf z) ∧
    (∀ z : FeedNo, (l.foldl (fun s r => endReductionHold r.frame (countBrowse (fun k => { k with discarded := bump k.discarded }) s)) s).watchEntry z = s.watchEntry z) := by
  induction l generalizing s with
  | nil => simp
  | cons x xs ih => simp [ih]

/-- With no join to meet, what a run of endDiscarded leaves of the requests and the waiting response. -/
@[simp] theorem endDiscarded_foldl_unmet (l : List Reduction) (s : State)
    (hj : s.mu.joined = none) :
    (l.foldl (fun s r => endReductionHold r.frame (countBrowse (fun k => { k with discarded := bump k.discarded }) s)) s).mu.joined = none ∧
    (l.foldl (fun s r => endReductionHold r.frame (countBrowse (fun k => { k with discarded := bump k.discarded }) s)) s).mu.requests = s.mu.requests ∧
    (l.foldl (fun s r => endReductionHold r.frame (countBrowse (fun k => { k with discarded := bump k.discarded }) s)) s).mu.waiting = s.mu.waiting ∧
    (l.foldl (fun s r => endReductionHold r.frame (countBrowse (fun k => { k with discarded := bump k.discarded }) s)) s).mu.resetDue = s.mu.resetDue := by
  induction l generalizing s with
  | nil => simp (maxDischargeDepth := 40) [hj]
  | cons x xs ih => simp (maxDischargeDepth := 40) [ih, hj]

/-- What removeReductions leaves as it was. -/
@[simp] theorem removeReductions_frame (p : Reduction → Bool) (s : State) :
    (removeReductions p s).wall = s.wall ∧ (removeReductions p s).resetLine = s.resetLine ∧
    (removeReductions p s).contribCarrier = s.contribCarrier ∧
    (removeReductions p s).storCarrier = s.storCarrier ∧
    (removeReductions p s).holdLine = s.holdLine ∧ (removeReductions p s).feeds = s.feeds ∧
    (removeReductions p s).port = s.port ∧ (removeReductions p s).handedUnits = s.handedUnits ∧
    (removeReductions p s).handedFrames = s.handedFrames ∧
    (removeReductions p s).contexts = s.contexts ∧ (removeReductions p s).smc.level = s.smc.level ∧
    (removeReductions p s).smc.holdings = s.smc.holdings ∧
    (removeReductions p s).smc.raises = s.smc.raises ∧ (removeReductions p s).rings = s.rings ∧
    (removeReductions p s).clips = s.clips ∧ (removeReductions p s).bu.durA = s.bu.durA ∧
    (removeReductions p s).bu.durB = s.bu.durB ∧ (removeReductions p s).bu.serial = s.bu.serial ∧
    (removeReductions p s).sw = s.sw ∧ (removeReductions p s).fw = s.fw ∧
    (removeReductions p s).mu.origins = s.mu.origins ∧
    (removeReductions p s).mu.address = s.mu.address ∧
    (removeReductions p s).mu.feedFlags = s.mu.feedFlags ∧
    (removeReductions p s).mu.refusedOrigin = s.mu.refusedOrigin ∧
    (removeReductions p s).mu.malformedRequests = s.mu.malformedRequests ∧
    (removeReductions p s).mu.requestsDropped = s.mu.requestsDropped ∧
    (removeReductions p s).mu.lastSent = s.mu.lastSent ∧
    (removeReductions p s).mu.sent = s.mu.sent ∧ (removeReductions p s).nextSerial = s.nextSerial ∧
    (removeReductions p s).pending = s.pending ∧
    (∀ z : FeedNo, (removeReductions p s).feed z = s.feed z) ∧
    (∀ z : ClipNo, (removeReductions p s).clip z = s.clip z) ∧
    (∀ z : FeedNo, (removeReductions p s).contextsOf z = s.contextsOf z) ∧
    (∀ z : FeedNo, (removeReductions p s).ring z = s.ring z) ∧
    (∀ z : FeedNo, (removeReductions p s).holding z = s.holding z) ∧
    (∀ z : FeedNo, (removeReductions p s).flagsOf z = s.flagsOf z) ∧
    (∀ z : FeedNo, (removeReductions p s).watchEntry z = s.watchEntry z) := by
  simp (maxDischargeDepth := 40) [removeReductions, State.feed, State.clip, State.contextsOf, State.ring,
    State.holding, State.flagsOf, State.watchEntry]

/-- With no join to meet, what removeReductions leaves of the requests and the waiting response. -/
@[simp] theorem removeReductions_unmet (p : Reduction → Bool) (s : State)
    (hj : s.mu.joined = none) :
    (removeReductions p s).mu.joined = none ∧ (removeReductions p s).mu.requests = s.mu.requests ∧
    (removeReductions p s).mu.waiting = s.mu.waiting ∧
    (removeReductions p s).mu.resetDue = s.mu.resetDue := by
  simp (maxDischargeDepth := 40) [removeReductions, hj]

/-- What shedNoBlocks leaves as it was. -/
@[simp] theorem shedNoBlocks_frame (r : Reduction) (s : State) :
    (shedNoBlocks r s).wall = s.wall ∧ (shedNoBlocks r s).resetLine = s.resetLine ∧
    (shedNoBlocks r s).contribCarrier = s.contribCarrier ∧
    (shedNoBlocks r s).storCarrier = s.storCarrier ∧ (shedNoBlocks r s).holdLine = s.holdLine ∧
    (shedNoBlocks r s).feeds = s.feeds ∧ (shedNoBlocks r s).port = s.port ∧
    (shedNoBlocks r s).handedUnits = s.handedUnits ∧
    (shedNoBlocks r s).handedFrames = s.handedFrames ∧ (shedNoBlocks r s).contexts = s.contexts ∧
    (shedNoBlocks r s).smc.level = s.smc.level ∧ (shedNoBlocks r s).smc.holdings = s.smc.holdings ∧
    (shedNoBlocks r s).smc.raises = s.smc.raises ∧ (shedNoBlocks r s).rings = s.rings ∧
    (shedNoBlocks r s).bu.queue = s.bu.queue ∧ (shedNoBlocks r s).bu.step = s.bu.step ∧
    (shedNoBlocks r s).bu.durA = s.bu.durA ∧ (shedNoBlocks r s).bu.durB = s.bu.durB ∧
    (shedNoBlocks r s).bu.serial = s.bu.serial ∧ (shedNoBlocks r s).sw = s.sw ∧
    (shedNoBlocks r s).fw = s.fw ∧ (shedNoBlocks r s).mu.origins = s.mu.origins ∧
    (shedNoBlocks r s).mu.address = s.mu.address ∧
    (shedNoBlocks r s).mu.feedFlags = s.mu.feedFlags ∧
    (shedNoBlocks r s).mu.refusedOrigin = s.mu.refusedOrigin ∧
    (shedNoBlocks r s).mu.malformedRequests = s.mu.malformedRequests ∧
    (shedNoBlocks r s).mu.requestsDropped = s.mu.requestsDropped ∧
    (shedNoBlocks r s).mu.lastSent = s.mu.lastSent ∧ (shedNoBlocks r s).mu.sent = s.mu.sent ∧
    (shedNoBlocks r s).nextSerial = s.nextSerial ∧ (shedNoBlocks r s).pending = s.pending ∧
    (∀ z : FeedNo, (shedNoBlocks r s).feed z = s.feed z) ∧
    (∀ z : FeedNo, (shedNoBlocks r s).contextsOf z = s.contextsOf z) ∧
    (∀ z : FeedNo, (shedNoBlocks r s).ring z = s.ring z) ∧
    (∀ z : FeedNo, (shedNoBlocks r s).holding z = s.holding z) ∧
    (∀ z : FeedNo, (shedNoBlocks r s).flagsOf z = s.flagsOf z) ∧
    (∀ z : FeedNo, (shedNoBlocks r s).watchEntry z = s.watchEntry z) := by
  simp [shedNoBlocks]

/-- With no join to meet, what shedNoBlocks leaves of the requests and the waiting response. -/
@[simp] theorem shedNoBlocks_unmet (r : Reduction) (s : State) (hj : s.mu.joined = none) :
    (shedNoBlocks r s).mu.joined = none ∧ (shedNoBlocks r s).mu.requests = s.mu.requests ∧
    (shedNoBlocks r s).mu.waiting = s.mu.waiting ∧
    (shedNoBlocks r s).mu.resetDue = s.mu.resetDue := by
  simp (maxDischargeDepth := 40) [shedNoBlocks, hj]

/-- What requestOutputs leaves as it was. -/
@[simp] theorem requestOutputs_frame (l : List Reduction) (s : State) :
    (requestOutputs l s).1.wall = s.wall ∧ (requestOutputs l s).1.resetLine = s.resetLine ∧
    (requestOutputs l s).1.contribCarrier = s.contribCarrier ∧
    (requestOutputs l s).1.storCarrier = s.storCarrier ∧
    (requestOutputs l s).1.holdLine = s.holdLine ∧ (requestOutputs l s).1.feeds = s.feeds ∧
    (requestOutputs l s).1.port = s.port ∧ (requestOutputs l s).1.handedUnits = s.handedUnits ∧
    (requestOutputs l s).1.handedFrames = s.handedFrames ∧
    (requestOutputs l s).1.contexts = s.contexts ∧ (requestOutputs l s).1.smc.level = s.smc.level ∧
    (requestOutputs l s).1.smc.holdings = s.smc.holdings ∧ (requestOutputs l s).1.rings = s.rings ∧
    (requestOutputs l s).1.bu.queue = s.bu.queue ∧ (requestOutputs l s).1.bu.step = s.bu.step ∧
    (requestOutputs l s).1.bu.durA = s.bu.durA ∧ (requestOutputs l s).1.bu.durB = s.bu.durB ∧
    (requestOutputs l s).1.bu.serial = s.bu.serial ∧ (requestOutputs l s).1.sw = s.sw ∧
    (requestOutputs l s).1.fw = s.fw ∧ (requestOutputs l s).1.mu.origins = s.mu.origins ∧
    (requestOutputs l s).1.mu.address = s.mu.address ∧
    (requestOutputs l s).1.mu.feedFlags = s.mu.feedFlags ∧
    (requestOutputs l s).1.mu.refusedOrigin = s.mu.refusedOrigin ∧
    (requestOutputs l s).1.mu.malformedRequests = s.mu.malformedRequests ∧
    (requestOutputs l s).1.mu.requestsDropped = s.mu.requestsDropped ∧
    (requestOutputs l s).1.mu.lastSent = s.mu.lastSent ∧
    (requestOutputs l s).1.mu.sent = s.mu.sent ∧ (requestOutputs l s).1.nextSerial = s.nextSerial ∧
    (requestOutputs l s).1.pending = s.pending ∧
    (∀ z : FeedNo, (requestOutputs l s).1.feed z = s.feed z) ∧
    (∀ z : FeedNo, (requestOutputs l s).1.contextsOf z = s.contextsOf z) ∧
    (∀ z : FeedNo, (requestOutputs l s).1.ring z = s.ring z) ∧
    (∀ z : FeedNo, (requestOutputs l s).1.holding z = s.holding z) ∧
    (∀ z : FeedNo, (requestOutputs l s).1.flagsOf z = s.flagsOf z) ∧
    (∀ z : FeedNo, (requestOutputs l s).1.watchEntry z = s.watchEntry z) := by
  induction l generalizing s with
  | nil => simp [requestOutputs]
  | cons r rs ih => unfold requestOutputs; split <;> simp [ih]

/-- With no join to meet, what requestOutputs leaves of the requests and the waiting response. -/
@[simp] theorem requestOutputs_unmet (l : List Reduction) (s : State) (hj : s.mu.joined = none) :
    (requestOutputs l s).1.mu.joined = none ∧ (requestOutputs l s).1.mu.requests = s.mu.requests ∧
    (requestOutputs l s).1.mu.waiting = s.mu.waiting ∧
    (requestOutputs l s).1.mu.resetDue = s.mu.resetDue := by
  induction l generalizing s with
  | nil => simp (maxDischargeDepth := 40) [requestOutputs, hj]
  | cons r rs ih => unfold requestOutputs; split <;> simp (maxDischargeDepth := 40) [ih, hj]

/-- What startStep leaves as it was. -/
@[simp] theorem startStep_frame (n : Nat) (s : State) :
    (startStep n s).wall = s.wall ∧ (startStep n s).resetLine = s.resetLine ∧
    (startStep n s).contribCarrier = s.contribCarrier ∧
    (startStep n s).storCarrier = s.storCarrier ∧ (startStep n s).holdLine = s.holdLine ∧
    (startStep n s).feeds = s.feeds ∧ (startStep n s).port = s.port ∧
    (startStep n s).handedUnits = s.handedUnits ∧ (startStep n s).handedFrames = s.handedFrames ∧
    (startStep n s).contexts = s.contexts ∧ (startStep n s).smc.level = s.smc.level ∧
    (startStep n s).smc.holdings = s.smc.holdings ∧ (startStep n s).rings = s.rings ∧
    (startStep n s).bu.durA = s.bu.durA ∧ (startStep n s).bu.durB = s.bu.durB ∧
    (startStep n s).bu.serial = s.bu.serial ∧ (startStep n s).sw = s.sw ∧
    (startStep n s).fw = s.fw ∧ (startStep n s).mu.origins = s.mu.origins ∧
    (startStep n s).mu.address = s.mu.address ∧ (startStep n s).mu.feedFlags = s.mu.feedFlags ∧
    (startStep n s).mu.refusedOrigin = s.mu.refusedOrigin ∧
    (startStep n s).mu.malformedRequests = s.mu.malformedRequests ∧
    (startStep n s).mu.requestsDropped = s.mu.requestsDropped ∧
    (startStep n s).mu.lastSent = s.mu.lastSent ∧ (startStep n s).mu.sent = s.mu.sent ∧
    (startStep n s).nextSerial = s.nextSerial ∧ (startStep n s).pending = s.pending ∧
    (∀ z : FeedNo, (startStep n s).feed z = s.feed z) ∧
    (∀ z : FeedNo, (startStep n s).contextsOf z = s.contextsOf z) ∧
    (∀ z : FeedNo, (startStep n s).ring z = s.ring z) ∧
    (∀ z : FeedNo, (startStep n s).holding z = s.holding z) ∧
    (∀ z : FeedNo, (startStep n s).flagsOf z = s.flagsOf z) ∧
    (∀ z : FeedNo, (startStep n s).watchEntry z = s.watchEntry z) := by
  induction n generalizing s with
  | zero => simp [startStep]
  | succ n ih =>
    unfold startStep; dsimp only
    (repeat' split) <;> simp [ih, State.feed, State.clip, State.contextsOf, State.ring,
      State.holding, State.flagsOf, State.watchEntry]

/-- With no join to meet, what startStep leaves of the requests and the waiting response. -/
@[simp] theorem startStep_unmet (n : Nat) (s : State) (hj : s.mu.joined = none) :
    (startStep n s).mu.joined = none ∧ (startStep n s).mu.requests = s.mu.requests ∧
    (startStep n s).mu.waiting = s.mu.waiting ∧ (startStep n s).mu.resetDue = s.mu.resetDue := by
  induction n generalizing s with
  | zero => simp (maxDischargeDepth := 40) [startStep, hj]
  | succ n ih =>
    unfold startStep; dsimp only
    (repeat' split) <;> simp (maxDischargeDepth := 40) [ih, hj]

/-- What kickReducer leaves as it was. -/
@[simp] theorem kickReducer_frame (s : State) :
    (kickReducer s).wall = s.wall ∧ (kickReducer s).resetLine = s.resetLine ∧
    (kickReducer s).contribCarrier = s.contribCarrier ∧
    (kickReducer s).storCarrier = s.storCarrier ∧ (kickReducer s).holdLine = s.holdLine ∧
    (kickReducer s).feeds = s.feeds ∧ (kickReducer s).port = s.port ∧
    (kickReducer s).handedUnits = s.handedUnits ∧ (kickReducer s).handedFrames = s.handedFrames ∧
    (kickReducer s).contexts = s.contexts ∧ (kickReducer s).smc.level = s.smc.level ∧
    (kickReducer s).smc.holdings = s.smc.holdings ∧ (kickReducer s).rings = s.rings ∧
    (kickReducer s).bu.durA = s.bu.durA ∧ (kickReducer s).bu.durB = s.bu.durB ∧
    (kickReducer s).bu.serial = s.bu.serial ∧ (kickReducer s).sw = s.sw ∧
    (kickReducer s).fw = s.fw ∧ (kickReducer s).mu.origins = s.mu.origins ∧
    (kickReducer s).mu.address = s.mu.address ∧ (kickReducer s).mu.feedFlags = s.mu.feedFlags ∧
    (kickReducer s).mu.refusedOrigin = s.mu.refusedOrigin ∧
    (kickReducer s).mu.malformedRequests = s.mu.malformedRequests ∧
    (kickReducer s).mu.requestsDropped = s.mu.requestsDropped ∧
    (kickReducer s).mu.lastSent = s.mu.lastSent ∧ (kickReducer s).mu.sent = s.mu.sent ∧
    (kickReducer s).nextSerial = s.nextSerial ∧ (kickReducer s).pending = s.pending ∧
    (∀ z : FeedNo, (kickReducer s).feed z = s.feed z) ∧
    (∀ z : FeedNo, (kickReducer s).contextsOf z = s.contextsOf z) ∧
    (∀ z : FeedNo, (kickReducer s).ring z = s.ring z) ∧
    (∀ z : FeedNo, (kickReducer s).holding z = s.holding z) ∧
    (∀ z : FeedNo, (kickReducer s).flagsOf z = s.flagsOf z) ∧
    (∀ z : FeedNo, (kickReducer s).watchEntry z = s.watchEntry z) := by
  simp [kickReducer]

/-- With no join to meet, what kickReducer leaves of the requests and the waiting response. -/
@[simp] theorem kickReducer_unmet (s : State) (hj : s.mu.joined = none) :
    (kickReducer s).mu.joined = none ∧ (kickReducer s).mu.requests = s.mu.requests ∧
    (kickReducer s).mu.waiting = s.mu.waiting ∧ (kickReducer s).mu.resetDue = s.mu.resetDue := by
  simp (maxDischargeDepth := 40) [kickReducer, hj]

end Sys2Proof.Machine
end

