-- ==== Sys2Proof/Laws/Publish.lean ====
section
/-! SUPPORT. The frames of the Clip Manager's operations (Machine/Publish.lean). -/

namespace Sys2Proof.Machine

set_option Elab.async false

/-- What handIndex leaves as it was. -/
@[simp] theorem handIndex_frame (c : ClipNo) (s : State) :
    (handIndex c s).wall = s.wall ∧ (handIndex c s).resetLine = s.resetLine ∧
    (handIndex c s).contribCarrier = s.contribCarrier ∧
    (handIndex c s).storCarrier = s.storCarrier ∧ (handIndex c s).holdLine = s.holdLine ∧
    (handIndex c s).feeds = s.feeds ∧ (handIndex c s).port = s.port ∧
    (handIndex c s).handedUnits = s.handedUnits ∧ (handIndex c s).handedFrames = s.handedFrames ∧
    (handIndex c s).contexts = s.contexts ∧ (handIndex c s).smc = s.smc ∧
    (handIndex c s).rings = s.rings ∧ (handIndex c s).placed = s.placed ∧
    (handIndex c s).bu = s.bu ∧ (handIndex c s).sw.settings = s.sw.settings ∧
    (handIndex c s).sw.late = s.sw.late ∧ (handIndex c s).sw.retired = s.sw.retired ∧
    (handIndex c s).sw.paused = s.sw.paused ∧ (handIndex c s).sw.records = s.sw.records ∧
    (handIndex c s).sw.stray = s.sw.stray ∧ (handIndex c s).sw.readies = s.sw.readies ∧
    (handIndex c s).sw.foreign = s.sw.foreign ∧
    (handIndex c s).sw.lastMessages = s.sw.lastMessages ∧ (handIndex c s).fw = s.fw ∧
    (handIndex c s).mu = s.mu ∧ (handIndex c s).pending = s.pending ∧
    (∀ z : FeedNo, (handIndex c s).feed z = s.feed z) ∧
    (∀ z : FeedNo, (handIndex c s).contextsOf z = s.contextsOf z) ∧
    (∀ z : FeedNo, (handIndex c s).ring z = s.ring z) ∧
    (∀ z : FeedNo, (handIndex c s).holding z = s.holding z) ∧
    (∀ z : FeedNo, (handIndex c s).flagsOf z = s.flagsOf z) ∧
    (∀ z : FeedNo, (handIndex c s).watchEntry z = s.watchEntry z) := by
  unfold handIndex; dsimp only; (repeat' split) <;> simp (maxDischargeDepth := 40) [State.feed, State.clip, State.contextsOf, State.ring,
    State.holding, State.flagsOf, State.watchEntry]

/-- What testEligible leaves as it was. -/
@[simp] theorem testEligible_frame (x : Nat) (c : ClipNo) (s : State) :
    (testEligible x c s).wall = s.wall ∧ (testEligible x c s).resetLine = s.resetLine ∧
    (testEligible x c s).contribCarrier = s.contribCarrier ∧
    (testEligible x c s).storCarrier = s.storCarrier ∧ (testEligible x c s).holdLine = s.holdLine ∧
    (testEligible x c s).feeds = s.feeds ∧ (testEligible x c s).port = s.port ∧
    (testEligible x c s).handedUnits = s.handedUnits ∧
    (testEligible x c s).handedFrames = s.handedFrames ∧
    (testEligible x c s).contexts = s.contexts ∧ (testEligible x c s).smc = s.smc ∧
    (testEligible x c s).rings = s.rings ∧ (testEligible x c s).placed = s.placed ∧
    (testEligible x c s).bu = s.bu ∧ (testEligible x c s).sw.settings = s.sw.settings ∧
    (testEligible x c s).sw.late = s.sw.late ∧ (testEligible x c s).sw.retired = s.sw.retired ∧
    (testEligible x c s).sw.paused = s.sw.paused ∧ (testEligible x c s).sw.records = s.sw.records ∧
    (testEligible x c s).sw.stray = s.sw.stray ∧ (testEligible x c s).sw.readies = s.sw.readies ∧
    (testEligible x c s).sw.foreign = s.sw.foreign ∧
    (testEligible x c s).sw.lastMessages = s.sw.lastMessages ∧ (testEligible x c s).fw = s.fw ∧
    (testEligible x c s).mu = s.mu ∧ (testEligible x c s).pending = s.pending ∧
    (∀ z : FeedNo, (testEligible x c s).feed z = s.feed z) ∧
    (∀ z : FeedNo, (testEligible x c s).contextsOf z = s.contextsOf z) ∧
    (∀ z : FeedNo, (testEligible x c s).ring z = s.ring z) ∧
    (∀ z : FeedNo, (testEligible x c s).holding z = s.holding z) ∧
    (∀ z : FeedNo, (testEligible x c s).flagsOf z = s.flagsOf z) ∧
    (∀ z : FeedNo, (testEligible x c s).watchEntry z = s.watchEntry z) := by
  unfold testEligible; (repeat' split) <;> simp

/-- What offerIndex leaves as it was. -/
@[simp] theorem offerIndex_frame (s : State) :
    (offerIndex s).wall = s.wall ∧ (offerIndex s).resetLine = s.resetLine ∧
    (offerIndex s).contribCarrier = s.contribCarrier ∧ (offerIndex s).storCarrier = s.storCarrier ∧
    (offerIndex s).holdLine = s.holdLine ∧ (offerIndex s).feeds = s.feeds ∧
    (offerIndex s).port = s.port ∧ (offerIndex s).handedUnits = s.handedUnits ∧
    (offerIndex s).handedFrames = s.handedFrames ∧ (offerIndex s).contexts = s.contexts ∧
    (offerIndex s).smc = s.smc ∧ (offerIndex s).rings = s.rings ∧ (offerIndex s).placed = s.placed ∧
    (offerIndex s).bu = s.bu ∧ (offerIndex s).sw.settings = s.sw.settings ∧
    (offerIndex s).sw.late = s.sw.late ∧ (offerIndex s).sw.retired = s.sw.retired ∧
    (offerIndex s).sw.paused = s.sw.paused ∧ (offerIndex s).sw.records = s.sw.records ∧
    (offerIndex s).sw.stray = s.sw.stray ∧ (offerIndex s).sw.readies = s.sw.readies ∧
    (offerIndex s).sw.foreign = s.sw.foreign ∧ (offerIndex s).sw.lastMessages = s.sw.lastMessages ∧
    (offerIndex s).fw = s.fw ∧ (offerIndex s).mu = s.mu ∧ (offerIndex s).pending = s.pending ∧
    (∀ z : FeedNo, (offerIndex s).feed z = s.feed z) ∧
    (∀ z : FeedNo, (offerIndex s).contextsOf z = s.contextsOf z) ∧
    (∀ z : FeedNo, (offerIndex s).ring z = s.ring z) ∧
    (∀ z : FeedNo, (offerIndex s).holding z = s.holding z) ∧
    (∀ z : FeedNo, (offerIndex s).flagsOf z = s.flagsOf z) ∧
    (∀ z : FeedNo, (offerIndex s).watchEntry z = s.watchEntry z) := by
  unfold offerIndex; (repeat' split) <;> simp

/-- What removeAsFailed leaves as it was. -/
@[simp] theorem removeAsFailed_frame (e : WriteEntry) (s : State) :
    (removeAsFailed e s).wall = s.wall ∧ (removeAsFailed e s).resetLine = s.resetLine ∧
    (removeAsFailed e s).contribCarrier = s.contribCarrier ∧
    (removeAsFailed e s).storCarrier = s.storCarrier ∧ (removeAsFailed e s).holdLine = s.holdLine ∧
    (removeAsFailed e s).feeds = s.feeds ∧ (removeAsFailed e s).port = s.port ∧
    (removeAsFailed e s).handedUnits = s.handedUnits ∧
    (removeAsFailed e s).handedFrames = s.handedFrames ∧
    (removeAsFailed e s).contexts = s.contexts ∧ (removeAsFailed e s).smc.level = s.smc.level ∧
    (removeAsFailed e s).smc.holdings = s.smc.holdings ∧
    (removeAsFailed e s).smc.raises = s.smc.raises ∧ (removeAsFailed e s).rings = s.rings ∧
    (removeAsFailed e s).clips = s.clips ∧ (removeAsFailed e s).bu = s.bu ∧
    (removeAsFailed e s).sw.settings = s.sw.settings ∧
    (removeAsFailed e s).sw.portQueue = s.sw.portQueue ∧
    (removeAsFailed e s).sw.lastUsed = s.sw.lastUsed ∧
    (removeAsFailed e s).sw.retired = s.sw.retired ∧ (removeAsFailed e s).sw.paused = s.sw.paused ∧
    (removeAsFailed e s).sw.stray = s.sw.stray ∧ (removeAsFailed e s).sw.readies = s.sw.readies ∧
    (removeAsFailed e s).sw.foreign = s.sw.foreign ∧
    (removeAsFailed e s).sw.lastMessages = s.sw.lastMessages ∧ (removeAsFailed e s).fw = s.fw ∧
    (removeAsFailed e s).mu.origins = s.mu.origins ∧
    (removeAsFailed e s).mu.address = s.mu.address ∧
    (removeAsFailed e s).mu.feedFlags = s.mu.feedFlags ∧
    (removeAsFailed e s).mu.refusedOrigin = s.mu.refusedOrigin ∧
    (removeAsFailed e s).mu.malformedRequests = s.mu.malformedRequests ∧
    (removeAsFailed e s).mu.requestsDropped = s.mu.requestsDropped ∧
    (removeAsFailed e s).mu.lastSent = s.mu.lastSent ∧ (removeAsFailed e s).mu.sent = s.mu.sent ∧
    (removeAsFailed e s).nextSerial = s.nextSerial ∧ (removeAsFailed e s).pending = s.pending ∧
    (∀ z : FeedNo, (removeAsFailed e s).feed z = s.feed z) ∧
    (∀ z : ClipNo, (removeAsFailed e s).clip z = s.clip z) ∧
    (∀ z : FeedNo, (removeAsFailed e s).contextsOf z = s.contextsOf z) ∧
    (∀ z : FeedNo, (removeAsFailed e s).ring z = s.ring z) ∧
    (∀ z : FeedNo, (removeAsFailed e s).holding z = s.holding z) ∧
    (∀ z : FeedNo, (removeAsFailed e s).flagsOf z = s.flagsOf z) ∧
    (∀ z : FeedNo, (removeAsFailed e s).watchEntry z = s.watchEntry z) := by
  unfold removeAsFailed; dsimp only; split <;> simp

/-- With no join to meet, what removeAsFailed leaves of the requests and the waiting response. -/
@[simp] theorem removeAsFailed_unmet (e : WriteEntry) (s : State) (hj : s.mu.joined = none) :
    (removeAsFailed e s).mu.joined = none ∧ (removeAsFailed e s).mu.requests = s.mu.requests ∧
    (removeAsFailed e s).mu.waiting = s.mu.waiting ∧
    (removeAsFailed e s).mu.resetDue = s.mu.resetDue := by
  unfold removeAsFailed; dsimp only; split <;> simp (maxDischargeDepth := 40) [hj]

/-- What reportFreed leaves as it was. -/
@[simp] theorem reportFreed_frame (e : WriteEntry) (s : State) :
    (reportFreed e s).wall = s.wall ∧ (reportFreed e s).resetLine = s.resetLine ∧
    (reportFreed e s).contribCarrier = s.contribCarrier ∧
    (reportFreed e s).storCarrier = s.storCarrier ∧ (reportFreed e s).holdLine = s.holdLine ∧
    (reportFreed e s).feeds = s.feeds ∧ (reportFreed e s).port = s.port ∧
    (reportFreed e s).handedUnits = s.handedUnits ∧
    (reportFreed e s).handedFrames = s.handedFrames ∧ (reportFreed e s).contexts = s.contexts ∧
    (reportFreed e s).smc = s.smc ∧ (reportFreed e s).rings = s.rings ∧
    (reportFreed e s).placed = s.placed ∧ (reportFreed e s).bu = s.bu ∧
    (reportFreed e s).sw.settings = s.sw.settings ∧ (reportFreed e s).sw.late = s.sw.late ∧
    (reportFreed e s).sw.retired = s.sw.retired ∧ (reportFreed e s).sw.paused = s.sw.paused ∧
    (reportFreed e s).sw.records = s.sw.records ∧ (reportFreed e s).sw.stray = s.sw.stray ∧
    (reportFreed e s).sw.readies = s.sw.readies ∧ (reportFreed e s).sw.foreign = s.sw.foreign ∧
    (reportFreed e s).sw.lastMessages = s.sw.lastMessages ∧ (reportFreed e s).fw = s.fw ∧
    (reportFreed e s).mu = s.mu ∧ (reportFreed e s).pending = s.pending ∧
    (∀ z : FeedNo, (reportFreed e s).feed z = s.feed z) ∧
    (∀ z : FeedNo, (reportFreed e s).contextsOf z = s.contextsOf z) ∧
    (∀ z : FeedNo, (reportFreed e s).ring z = s.ring z) ∧
    (∀ z : FeedNo, (reportFreed e s).holding z = s.holding z) ∧
    (∀ z : FeedNo, (reportFreed e s).flagsOf z = s.flagsOf z) ∧
    (∀ z : FeedNo, (reportFreed e s).watchEntry z = s.watchEntry z) := by
  unfold reportFreed; (repeat' split) <;> simp

/-- What a run of removeAsFailed over a list leaves as it was. -/
@[simp] theorem removeAsFailed_foldl_frame (l : List WriteEntry) (s : State) :
    (l.foldl (fun s e => removeAsFailed e s) s).wall = s.wall ∧
    (l.foldl (fun s e => removeAsFailed e s) s).resetLine = s.resetLine ∧
    (l.foldl (fun s e => removeAsFailed e s) s).contribCarrier = s.contribCarrier ∧
    (l.foldl (fun s e => removeAsFailed e s) s).storCarrier = s.storCarrier ∧
    (l.foldl (fun s e => removeAsFailed e s) s).holdLine = s.holdLine ∧
    (l.foldl (fun s e => removeAsFailed e s) s).feeds = s.feeds ∧
    (l.foldl (fun s e => removeAsFailed e s) s).port = s.port ∧
    (l.foldl (fun s e => removeAsFailed e s) s).handedUnits = s.handedUnits ∧
    (l.foldl (fun s e => removeAsFailed e s) s).handedFrames = s.handedFrames ∧
    (l.foldl (fun s e => removeAsFailed e s) s).contexts = s.contexts ∧
    (l.foldl (fun s e => removeAsFailed e s) s).smc.level = s.smc.level ∧
    (l.foldl (fun s e => removeAsFailed e s) s).smc.holdings = s.smc.holdings ∧
    (l.foldl (fun s e => removeAsFailed e s) s).smc.raises = s.smc.raises ∧
    (l.foldl (fun s e => removeAsFailed e s) s).rings = s.rings ∧
    (l.foldl (fun s e => removeAsFailed e s) s).clips = s.clips ∧
    (l.foldl (fun s e => removeAsFailed e s) s).bu = s.bu ∧
    (l.foldl (fun s e => removeAsFailed e s) s).sw.settings = s.sw.settings ∧
    (l.foldl (fun s e => removeAsFailed e s) s).sw.portQueue = s.sw.portQueue ∧
    (l.foldl (fun s e => removeAsFailed e s) s).sw.lastUsed = s.sw.lastUsed ∧
    (l.foldl (fun s e => removeAsFailed e s) s).sw.retired = s.sw.retired ∧
    (l.foldl (fun s e => removeAsFailed e s) s).sw.paused = s.sw.paused ∧
    (l.foldl (fun s e => removeAsFailed e s) s).sw.stray = s.sw.stray ∧
    (l.foldl (fun s e => removeAsFailed e s) s).sw.readies = s.sw.readies ∧
    (l.foldl (fun s e => removeAsFailed e s) s).sw.foreign = s.sw.foreign ∧
    (l.foldl (fun s e => removeAsFailed e s) s).sw.lastMessages = s.sw.lastMessages ∧
    (l.foldl (fun s e => removeAsFailed e s) s).fw = s.fw ∧
    (l.foldl (fun s e => removeAsFailed e s) s).mu.origins = s.mu.origins ∧
    (l.foldl (fun s e => removeAsFailed e s) s).mu.address = s.mu.address ∧
    (l.foldl (fun s e => removeAsFailed e s) s).mu.feedFlags = s.mu.feedFlags ∧
    (l.foldl (fun s e => removeAsFailed e s) s).mu.refusedOrigin = s.mu.refusedOrigin ∧
    (l.foldl (fun s e => removeAsFailed e s) s).mu.malformedRequests = s.mu.malformedRequests ∧
    (l.foldl (fun s e => removeAsFailed e s) s).mu.requestsDropped = s.mu.requestsDropped ∧
    (l.foldl (fun s e => removeAsFailed e s) s).mu.lastSent = s.mu.lastSent ∧
    (l.foldl (fun s e => removeAsFailed e s) s).mu.sent = s.mu.sent ∧
    (l.foldl (fun s e => removeAsFailed e s) s).nextSerial = s.nextSerial ∧
    (l.foldl (fun s e => removeAsFailed e s) s).pending = s.pending ∧
    (∀ z : FeedNo, (l.foldl (fun s e => removeAsFailed e s) s).feed z = s.feed z) ∧
    (∀ z : ClipNo, (l.foldl (fun s e => removeAsFailed e s) s).clip z = s.clip z) ∧
    (∀ z : FeedNo, (l.foldl (fun s e => removeAsFailed e s) s).contextsOf z = s.contextsOf z) ∧
    (∀ z : FeedNo, (l.foldl (fun s e => removeAsFailed e s) s).ring z = s.ring z) ∧
    (∀ z : FeedNo, (l.foldl (fun s e => removeAsFailed e s) s).holding z = s.holding z) ∧
    (∀ z : FeedNo, (l.foldl (fun s e => removeAsFailed e s) s).flagsOf z = s.flagsOf z) ∧
    (∀ z : FeedNo, (l.foldl (fun s e => removeAsFailed e s) s).watchEntry z = s.watchEntry z) := by
  induction l generalizing s with
  | nil => simp
  | cons x xs ih => simp [ih]

/-- With no join to meet, what a run of removeAsFailed leaves of the requests and the waiting response. -/
@[simp] theorem removeAsFailed_foldl_unmet (l : List WriteEntry) (s : State)
    (hj : s.mu.joined = none) :
    (l.foldl (fun s e => removeAsFailed e s) s).mu.joined = none ∧
    (l.foldl (fun s e => removeAsFailed e s) s).mu.requests = s.mu.requests ∧
    (l.foldl (fun s e => removeAsFailed e s) s).mu.waiting = s.mu.waiting ∧
    (l.foldl (fun s e => removeAsFailed e s) s).mu.resetDue = s.mu.resetDue := by
  induction l generalizing s with
  | nil => simp (maxDischargeDepth := 40) [hj]
  | cons x xs ih => simp (maxDischargeDepth := 40) [ih, hj]

/-- What a run of reportFreed over a list leaves as it was. -/
@[simp] theorem reportFreed_foldl_frame (l : List WriteEntry) (s : State) :
    (l.foldl (fun s e => reportFreed e s) s).wall = s.wall ∧
    (l.foldl (fun s e => reportFreed e s) s).resetLine = s.resetLine ∧
    (l.foldl (fun s e => reportFreed e s) s).contribCarrier = s.contribCarrier ∧
    (l.foldl (fun s e => reportFreed e s) s).storCarrier = s.storCarrier ∧
    (l.foldl (fun s e => reportFreed e s) s).holdLine = s.holdLine ∧
    (l.foldl (fun s e => reportFreed e s) s).feeds = s.feeds ∧
    (l.foldl (fun s e => reportFreed e s) s).port = s.port ∧
    (l.foldl (fun s e => reportFreed e s) s).handedUnits = s.handedUnits ∧
    (l.foldl (fun s e => reportFreed e s) s).handedFrames = s.handedFrames ∧
    (l.foldl (fun s e => reportFreed e s) s).contexts = s.contexts ∧
    (l.foldl (fun s e => reportFreed e s) s).smc = s.smc ∧
    (l.foldl (fun s e => reportFreed e s) s).rings = s.rings ∧
    (l.foldl (fun s e => reportFreed e s) s).placed = s.placed ∧
    (l.foldl (fun s e => reportFreed e s) s).bu = s.bu ∧
    (l.foldl (fun s e => reportFreed e s) s).sw.settings = s.sw.settings ∧
    (l.foldl (fun s e => reportFreed e s) s).sw.late = s.sw.late ∧
    (l.foldl (fun s e => reportFreed e s) s).sw.retired = s.sw.retired ∧
    (l.foldl (fun s e => reportFreed e s) s).sw.paused = s.sw.paused ∧
    (l.foldl (fun s e => reportFreed e s) s).sw.records = s.sw.records ∧
    (l.foldl (fun s e => reportFreed e s) s).sw.stray = s.sw.stray ∧
    (l.foldl (fun s e => reportFreed e s) s).sw.readies = s.sw.readies ∧
    (l.foldl (fun s e => reportFreed e s) s).sw.foreign = s.sw.foreign ∧
    (l.foldl (fun s e => reportFreed e s) s).sw.lastMessages = s.sw.lastMessages ∧
    (l.foldl (fun s e => reportFreed e s) s).fw = s.fw ∧
    (l.foldl (fun s e => reportFreed e s) s).mu = s.mu ∧
    (l.foldl (fun s e => reportFreed e s) s).pending = s.pending ∧
    (∀ z : FeedNo, (l.foldl (fun s e => reportFreed e s) s).feed z = s.feed z) ∧
    (∀ z : FeedNo, (l.foldl (fun s e => reportFreed e s) s).contextsOf z = s.contextsOf z) ∧
    (∀ z : FeedNo, (l.foldl (fun s e => reportFreed e s) s).ring z = s.ring z) ∧
    (∀ z : FeedNo, (l.foldl (fun s e => reportFreed e s) s).holding z = s.holding z) ∧
    (∀ z : FeedNo, (l.foldl (fun s e => reportFreed e s) s).flagsOf z = s.flagsOf z) ∧
    (∀ z : FeedNo, (l.foldl (fun s e => reportFreed e s) s).watchEntry z = s.watchEntry z) := by
  induction l generalizing s with
  | nil => simp
  | cons x xs ih => simp [ih]

/-- What removeAll leaves as it was. -/
@[simp] theorem removeAll_frame (es : List WriteEntry) (s : State) :
    (removeAll es s).wall = s.wall ∧ (removeAll es s).resetLine = s.resetLine ∧
    (removeAll es s).contribCarrier = s.contribCarrier ∧
    (removeAll es s).storCarrier = s.storCarrier ∧ (removeAll es s).holdLine = s.holdLine ∧
    (removeAll es s).feeds = s.feeds ∧ (removeAll es s).port = s.port ∧
    (removeAll es s).handedUnits = s.handedUnits ∧ (removeAll es s).handedFrames = s.handedFrames ∧
    (removeAll es s).contexts = s.contexts ∧ (removeAll es s).smc.level = s.smc.level ∧
    (removeAll es s).smc.holdings = s.smc.holdings ∧ (removeAll es s).smc.raises = s.smc.raises ∧
    (removeAll es s).rings = s.rings ∧ (removeAll es s).bu = s.bu ∧
    (removeAll es s).sw.settings = s.sw.settings ∧ (removeAll es s).sw.retired = s.sw.retired ∧
    (removeAll es s).sw.paused = s.sw.paused ∧ (removeAll es s).sw.stray = s.sw.stray ∧
    (removeAll es s).sw.readies = s.sw.readies ∧ (removeAll es s).sw.foreign = s.sw.foreign ∧
    (removeAll es s).sw.lastMessages = s.sw.lastMessages ∧ (removeAll es s).fw = s.fw ∧
    (removeAll es s).mu.origins = s.mu.origins ∧ (removeAll es s).mu.address = s.mu.address ∧
    (removeAll es s).mu.feedFlags = s.mu.feedFlags ∧
    (removeAll es s).mu.refusedOrigin = s.mu.refusedOrigin ∧
    (removeAll es s).mu.malformedRequests = s.mu.malformedRequests ∧
    (removeAll es s).mu.requestsDropped = s.mu.requestsDropped ∧
    (removeAll es s).mu.lastSent = s.mu.lastSent ∧ (removeAll es s).mu.sent = s.mu.sent ∧
    (removeAll es s).pending = s.pending ∧ (∀ z : FeedNo, (removeAll es s).feed z = s.feed z) ∧
    (∀ z : FeedNo, (removeAll es s).contextsOf z = s.contextsOf z) ∧
    (∀ z : FeedNo, (removeAll es s).ring z = s.ring z) ∧
    (∀ z : FeedNo, (removeAll es s).holding z = s.holding z) ∧
    (∀ z : FeedNo, (removeAll es s).flagsOf z = s.flagsOf z) ∧
    (∀ z : FeedNo, (removeAll es s).watchEntry z = s.watchEntry z) := by
  simp [removeAll]

/-- With no join to meet, what removeAll leaves of the requests and the waiting response. -/
@[simp] theorem removeAll_unmet (es : List WriteEntry) (s : State) (hj : s.mu.joined = none) :
    (removeAll es s).mu.joined = none ∧ (removeAll es s).mu.requests = s.mu.requests ∧
    (removeAll es s).mu.waiting = s.mu.waiting ∧ (removeAll es s).mu.resetDue = s.mu.resetDue := by
  simp (maxDischargeDepth := 40) [removeAll, hj]

/-- What removeQueued leaves as it was. -/
@[simp] theorem removeQueued_frame (c : ClipNo) (s : State) :
    (removeQueued c s).wall = s.wall ∧ (removeQueued c s).resetLine = s.resetLine ∧
    (removeQueued c s).contribCarrier = s.contribCarrier ∧
    (removeQueued c s).storCarrier = s.storCarrier ∧ (removeQueued c s).holdLine = s.holdLine ∧
    (removeQueued c s).feeds = s.feeds ∧ (removeQueued c s).port = s.port ∧
    (removeQueued c s).handedUnits = s.handedUnits ∧
    (removeQueued c s).handedFrames = s.handedFrames ∧ (removeQueued c s).contexts = s.contexts ∧
    (removeQueued c s).smc.level = s.smc.level ∧ (removeQueued c s).smc.holdings = s.smc.holdings ∧
    (removeQueued c s).smc.raises = s.smc.raises ∧ (removeQueued c s).rings = s.rings ∧
    (removeQueued c s).bu = s.bu ∧ (removeQueued c s).sw.settings = s.sw.settings ∧
    (removeQueued c s).sw.retired = s.sw.retired ∧ (removeQueued c s).sw.paused = s.sw.paused ∧
    (removeQueued c s).sw.stray = s.sw.stray ∧ (removeQueued c s).sw.readies = s.sw.readies ∧
    (removeQueued c s).sw.foreign = s.sw.foreign ∧
    (removeQueued c s).sw.lastMessages = s.sw.lastMessages ∧ (removeQueued c s).fw = s.fw ∧
    (removeQueued c s).mu.origins = s.mu.origins ∧ (removeQueued c s).mu.address = s.mu.address ∧
    (removeQueued c s).mu.feedFlags = s.mu.feedFlags ∧
    (removeQueued c s).mu.refusedOrigin = s.mu.refusedOrigin ∧
    (removeQueued c s).mu.malformedRequests = s.mu.malformedRequests ∧
    (removeQueued c s).mu.requestsDropped = s.mu.requestsDropped ∧
    (removeQueued c s).mu.lastSent = s.mu.lastSent ∧ (removeQueued c s).mu.sent = s.mu.sent ∧
    (removeQueued c s).pending = s.pending ∧ (∀ z : FeedNo, (removeQueued c s).feed z = s.feed z) ∧
    (∀ z : FeedNo, (removeQueued c s).contextsOf z = s.contextsOf z) ∧
    (∀ z : FeedNo, (removeQueued c s).ring z = s.ring z) ∧
    (∀ z : FeedNo, (removeQueued c s).holding z = s.holding z) ∧
    (∀ z : FeedNo, (removeQueued c s).flagsOf z = s.flagsOf z) ∧
    (∀ z : FeedNo, (removeQueued c s).watchEntry z = s.watchEntry z) := by
  simp [removeQueued]

/-- With no join to meet, what removeQueued leaves of the requests and the waiting response. -/
@[simp] theorem removeQueued_unmet (c : ClipNo) (s : State) (hj : s.mu.joined = none) :
    (removeQueued c s).mu.joined = none ∧ (removeQueued c s).mu.requests = s.mu.requests ∧
    (removeQueued c s).mu.waiting = s.mu.waiting ∧
    (removeQueued c s).mu.resetDue = s.mu.resetDue := by
  simp (maxDischargeDepth := 40) [removeQueued, hj]

/-- What leaveRecording leaves as it was. -/
@[simp] theorem leaveRecording_frame (f : FeedNo) (st : FeedState) (s : State) :
    (leaveRecording f st s).wall = s.wall ∧ (leaveRecording f st s).resetLine = s.resetLine ∧
    (leaveRecording f st s).contribCarrier = s.contribCarrier ∧
    (leaveRecording f st s).storCarrier = s.storCarrier ∧
    (leaveRecording f st s).holdLine = s.holdLine ∧ (leaveRecording f st s).port = s.port ∧
    (leaveRecording f st s).smc.level = s.smc.level ∧
    (leaveRecording f st s).smc.raises = s.smc.raises ∧ (leaveRecording f st s).placed = s.placed ∧
    (leaveRecording f st s).clips = s.clips ∧ (leaveRecording f st s).bu = s.bu ∧
    (leaveRecording f st s).sw = s.sw ∧ (leaveRecording f st s).fw = s.fw ∧
    (leaveRecording f st s).mu.origins = s.mu.origins ∧
    (leaveRecording f st s).mu.address = s.mu.address ∧
    (leaveRecording f st s).mu.refusedOrigin = s.mu.refusedOrigin ∧
    (leaveRecording f st s).mu.malformedRequests = s.mu.malformedRequests ∧
    (leaveRecording f st s).mu.requestsDropped = s.mu.requestsDropped ∧
    (leaveRecording f st s).mu.lastSent = s.mu.lastSent ∧
    (leaveRecording f st s).mu.sent = s.mu.sent ∧
    (leaveRecording f st s).nextSerial = s.nextSerial ∧
    (leaveRecording f st s).pending = s.pending ∧
    (∀ z : ClipNo, (leaveRecording f st s).clip z = s.clip z) ∧
    (∀ z : FeedNo, (leaveRecording f st s).watchEntry z = s.watchEntry z) := by
  simp [leaveRecording]

/-- With no join to meet, what leaveRecording leaves of the requests and the waiting response. -/
@[simp] theorem leaveRecording_unmet (f : FeedNo) (st : FeedState) (s : State)
    (hj : s.mu.joined = none) :
    (leaveRecording f st s).mu.joined = none ∧ (leaveRecording f st s).mu.requests = s.mu.requests ∧
    (leaveRecording f st s).mu.waiting = s.mu.waiting ∧
    (leaveRecording f st s).mu.resetDue = s.mu.resetDue := by
  simp (maxDischargeDepth := 40) [leaveRecording, hj]

/-- What failClip leaves as it was. -/
@[simp] theorem failClip_frame (c : ClipNo) (b : Bool) (s : State) :
    (failClip c b s).wall = s.wall ∧ (failClip c b s).resetLine = s.resetLine ∧
    (failClip c b s).contribCarrier = s.contribCarrier ∧
    (failClip c b s).storCarrier = s.storCarrier ∧ (failClip c b s).holdLine = s.holdLine ∧
    (failClip c b s).port = s.port ∧ (failClip c b s).smc.level = s.smc.level ∧
    (failClip c b s).smc.raises = s.smc.raises ∧ (failClip c b s).bu.durA = s.bu.durA ∧
    (failClip c b s).bu.durB = s.bu.durB ∧ (failClip c b s).bu.serial = s.bu.serial ∧
    (failClip c b s).sw.settings = s.sw.settings ∧ (failClip c b s).sw.retired = s.sw.retired ∧
    (failClip c b s).sw.paused = s.sw.paused ∧ (failClip c b s).sw.stray = s.sw.stray ∧
    (failClip c b s).sw.readies = s.sw.readies ∧ (failClip c b s).sw.foreign = s.sw.foreign ∧
    (failClip c b s).sw.lastMessages = s.sw.lastMessages ∧ (failClip c b s).fw = s.fw ∧
    (failClip c b s).mu.origins = s.mu.origins ∧ (failClip c b s).mu.address = s.mu.address ∧
    (failClip c b s).mu.refusedOrigin = s.mu.refusedOrigin ∧
    (failClip c b s).mu.malformedRequests = s.mu.malformedRequests ∧
    (failClip c b s).mu.requestsDropped = s.mu.requestsDropped ∧
    (failClip c b s).mu.lastSent = s.mu.lastSent ∧ (failClip c b s).mu.sent = s.mu.sent ∧
    (failClip c b s).pending = s.pending ∧
    (∀ z : FeedNo, (failClip c b s).watchEntry z = s.watchEntry z) := by
  unfold failClip; dsimp only; (repeat' split) <;> simp

/-- With no join to meet, what failClip leaves of the requests and the waiting response. -/
@[simp] theorem failClip_unmet (c : ClipNo) (b : Bool) (s : State) (hj : s.mu.joined = none) :
    (failClip c b s).mu.joined = none ∧ (failClip c b s).mu.requests = s.mu.requests ∧
    (failClip c b s).mu.waiting = s.mu.waiting ∧ (failClip c b s).mu.resetDue = s.mu.resetDue := by
  unfold failClip; dsimp only; (repeat' split) <;> simp (maxDischargeDepth := 40) [hj]

/-- What keepRecord leaves as it was. -/
@[simp] theorem keepRecord_frame (c : ClipNo) (g : Segment) (r : Option EndReason) (s : State) :
    (keepRecord c g r s).wall = s.wall ∧ (keepRecord c g r s).resetLine = s.resetLine ∧
    (keepRecord c g r s).contribCarrier = s.contribCarrier ∧
    (keepRecord c g r s).storCarrier = s.storCarrier ∧ (keepRecord c g r s).holdLine = s.holdLine ∧
    (keepRecord c g r s).feeds = s.feeds ∧ (keepRecord c g r s).port = s.port ∧
    (keepRecord c g r s).handedUnits = s.handedUnits ∧
    (keepRecord c g r s).handedFrames = s.handedFrames ∧
    (keepRecord c g r s).contexts = s.contexts ∧ (keepRecord c g r s).smc = s.smc ∧
    (keepRecord c g r s).rings = s.rings ∧ (keepRecord c g r s).placed = s.placed ∧
    (keepRecord c g r s).bu = s.bu ∧ (keepRecord c g r s).sw.settings = s.sw.settings ∧
    (keepRecord c g r s).sw.late = s.sw.late ∧ (keepRecord c g r s).sw.retired = s.sw.retired ∧
    (keepRecord c g r s).sw.paused = s.sw.paused ∧ (keepRecord c g r s).sw.records = s.sw.records ∧
    (keepRecord c g r s).sw.stray = s.sw.stray ∧ (keepRecord c g r s).sw.readies = s.sw.readies ∧
    (keepRecord c g r s).sw.foreign = s.sw.foreign ∧
    (keepRecord c g r s).sw.lastMessages = s.sw.lastMessages ∧ (keepRecord c g r s).fw = s.fw ∧
    (keepRecord c g r s).mu = s.mu ∧ (keepRecord c g r s).pending = s.pending ∧
    (∀ z : FeedNo, (keepRecord c g r s).feed z = s.feed z) ∧
    (∀ z : FeedNo, (keepRecord c g r s).contextsOf z = s.contextsOf z) ∧
    (∀ z : FeedNo, (keepRecord c g r s).ring z = s.ring z) ∧
    (∀ z : FeedNo, (keepRecord c g r s).holding z = s.holding z) ∧
    (∀ z : FeedNo, (keepRecord c g r s).flagsOf z = s.flagsOf z) ∧
    (∀ z : FeedNo, (keepRecord c g r s).watchEntry z = s.watchEntry z) := by
  simp [keepRecord]

/-- What takeStaged leaves as it was. -/
@[simp] theorem takeStaged_frame (c : ClipNo) (s : State) :
    (takeStaged c s).wall = s.wall ∧ (takeStaged c s).resetLine = s.resetLine ∧
    (takeStaged c s).contribCarrier = s.contribCarrier ∧
    (takeStaged c s).storCarrier = s.storCarrier ∧ (takeStaged c s).holdLine = s.holdLine ∧
    (takeStaged c s).port = s.port ∧ (takeStaged c s).handedUnits = s.handedUnits ∧
    (takeStaged c s).handedFrames = s.handedFrames ∧ (takeStaged c s).contexts = s.contexts ∧
    (takeStaged c s).smc = s.smc ∧ (takeStaged c s).rings = s.rings ∧
    (takeStaged c s).placed = s.placed ∧ (takeStaged c s).bu = s.bu ∧ (takeStaged c s).sw = s.sw ∧
    (takeStaged c s).fw = s.fw ∧ (takeStaged c s).mu = s.mu ∧
    (takeStaged c s).nextSerial = s.nextSerial ∧ (takeStaged c s).pending = s.pending ∧
    (∀ z : FeedNo, (takeStaged c s).contextsOf z = s.contextsOf z) ∧
    (∀ z : FeedNo, (takeStaged c s).ring z = s.ring z) ∧
    (∀ z : FeedNo, (takeStaged c s).holding z = s.holding z) ∧
    (∀ z : FeedNo, (takeStaged c s).flagsOf z = s.flagsOf z) ∧
    (∀ z : FeedNo, (takeStaged c s).watchEntry z = s.watchEntry z) := by
  unfold takeStaged; dsimp only; (repeat' split) <;> simp

/-- What openNext leaves as it was. -/
@[simp] theorem openNext_frame (c : ClipNo) (n : Nat) (s : State) :
    (openNext c n s).wall = s.wall ∧ (openNext c n s).resetLine = s.resetLine ∧
    (openNext c n s).contribCarrier = s.contribCarrier ∧
    (openNext c n s).storCarrier = s.storCarrier ∧ (openNext c n s).holdLine = s.holdLine ∧
    (openNext c n s).feeds = s.feeds ∧ (openNext c n s).port = s.port ∧
    (openNext c n s).handedUnits = s.handedUnits ∧ (openNext c n s).handedFrames = s.handedFrames ∧
    (openNext c n s).contexts = s.contexts ∧ (openNext c n s).smc = s.smc ∧
    (openNext c n s).rings = s.rings ∧ (openNext c n s).placed = s.placed ∧
    (openNext c n s).bu = s.bu ∧ (openNext c n s).sw = s.sw ∧ (openNext c n s).fw = s.fw ∧
    (openNext c n s).mu = s.mu ∧ (openNext c n s).nextSerial = s.nextSerial ∧
    (openNext c n s).pending = s.pending ∧ (∀ z : FeedNo, (openNext c n s).feed z = s.feed z) ∧
    (∀ z : FeedNo, (openNext c n s).contextsOf z = s.contextsOf z) ∧
    (∀ z : FeedNo, (openNext c n s).ring z = s.ring z) ∧
    (∀ z : FeedNo, (openNext c n s).holding z = s.holding z) ∧
    (∀ z : FeedNo, (openNext c n s).flagsOf z = s.flagsOf z) ∧
    (∀ z : FeedNo, (openNext c n s).watchEntry z = s.watchEntry z) := by
  simp [openNext]

/-- What midClose leaves as it was. -/
@[simp] theorem midClose_frame (c : ClipNo) (s : State) :
    (midClose c s).wall = s.wall ∧ (midClose c s).resetLine = s.resetLine ∧
    (midClose c s).contribCarrier = s.contribCarrier ∧ (midClose c s).storCarrier = s.storCarrier ∧
    (midClose c s).holdLine = s.holdLine ∧ (midClose c s).port = s.port ∧
    (midClose c s).smc.level = s.smc.level ∧ (midClose c s).smc.raises = s.smc.raises ∧
    (midClose c s).bu.durA = s.bu.durA ∧ (midClose c s).bu.durB = s.bu.durB ∧
    (midClose c s).bu.serial = s.bu.serial ∧ (midClose c s).sw.settings = s.sw.settings ∧
    (midClose c s).sw.retired = s.sw.retired ∧ (midClose c s).sw.paused = s.sw.paused ∧
    (midClose c s).sw.stray = s.sw.stray ∧ (midClose c s).sw.readies = s.sw.readies ∧
    (midClose c s).sw.foreign = s.sw.foreign ∧ (midClose c s).sw.lastMessages = s.sw.lastMessages ∧
    (midClose c s).fw = s.fw ∧ (midClose c s).mu.origins = s.mu.origins ∧
    (midClose c s).mu.address = s.mu.address ∧
    (midClose c s).mu.refusedOrigin = s.mu.refusedOrigin ∧
    (midClose c s).mu.malformedRequests = s.mu.malformedRequests ∧
    (midClose c s).mu.requestsDropped = s.mu.requestsDropped ∧
    (midClose c s).mu.lastSent = s.mu.lastSent ∧ (midClose c s).mu.sent = s.mu.sent ∧
    (midClose c s).pending = s.pending ∧
    (∀ z : FeedNo, (midClose c s).watchEntry z = s.watchEntry z) := by
  unfold midClose; dsimp only; (repeat' split) <;> simp

/-- With no join to meet, what midClose leaves of the requests and the waiting response. -/
@[simp] theorem midClose_unmet (c : ClipNo) (s : State) (hj : s.mu.joined = none) :
    (midClose c s).mu.joined = none ∧ (midClose c s).mu.requests = s.mu.requests ∧
    (midClose c s).mu.waiting = s.mu.waiting ∧ (midClose c s).mu.resetDue = s.mu.resetDue := by
  unfold midClose; dsimp only; (repeat' split) <;> simp (maxDischargeDepth := 40) [hj]

/-- What endClip leaves as it was. -/
@[simp] theorem endClip_frame (c : ClipNo) (w : EndReason) (s : State) :
    (endClip c w s).wall = s.wall ∧ (endClip c w s).resetLine = s.resetLine ∧
    (endClip c w s).contribCarrier = s.contribCarrier ∧
    (endClip c w s).storCarrier = s.storCarrier ∧ (endClip c w s).holdLine = s.holdLine ∧
    (endClip c w s).feeds = s.feeds ∧ (endClip c w s).port = s.port ∧
    (endClip c w s).handedUnits = s.handedUnits ∧ (endClip c w s).handedFrames = s.handedFrames ∧
    (endClip c w s).contexts = s.contexts ∧ (endClip c w s).smc = s.smc ∧
    (endClip c w s).rings = s.rings ∧ (endClip c w s).placed = s.placed ∧
    (endClip c w s).bu = s.bu ∧ (endClip c w s).sw.settings = s.sw.settings ∧
    (endClip c w s).sw.late = s.sw.late ∧ (endClip c w s).sw.retired = s.sw.retired ∧
    (endClip c w s).sw.paused = s.sw.paused ∧ (endClip c w s).sw.records = s.sw.records ∧
    (endClip c w s).sw.stray = s.sw.stray ∧ (endClip c w s).sw.readies = s.sw.readies ∧
    (endClip c w s).sw.foreign = s.sw.foreign ∧
    (endClip c w s).sw.lastMessages = s.sw.lastMessages ∧ (endClip c w s).fw = s.fw ∧
    (endClip c w s).mu.origins = s.mu.origins ∧ (endClip c w s).mu.address = s.mu.address ∧
    (endClip c w s).mu.devFlags = s.mu.devFlags ∧ (endClip c w s).mu.feedFlags = s.mu.feedFlags ∧
    (endClip c w s).mu.refusedOrigin = s.mu.refusedOrigin ∧
    (endClip c w s).mu.malformedRequests = s.mu.malformedRequests ∧
    (endClip c w s).mu.requestsDropped = s.mu.requestsDropped ∧
    (endClip c w s).mu.lastSent = s.mu.lastSent ∧ (endClip c w s).mu.sent = s.mu.sent ∧
    (endClip c w s).pending = s.pending ∧ (∀ z : FeedNo, (endClip c w s).feed z = s.feed z) ∧
    (∀ z : FeedNo, (endClip c w s).contextsOf z = s.contextsOf z) ∧
    (∀ z : FeedNo, (endClip c w s).ring z = s.ring z) ∧
    (∀ z : FeedNo, (endClip c w s).holding z = s.holding z) ∧
    (∀ z : FeedNo, (endClip c w s).flagsOf z = s.flagsOf z) ∧
    (∀ z : FeedNo, (endClip c w s).watchEntry z = s.watchEntry z) := by
  unfold endClip; dsimp only; (repeat' split) <;> simp

/-- With no join to meet, what endClip leaves of the requests and the waiting response. -/
@[simp] theorem endClip_unmet (c : ClipNo) (w : EndReason) (s : State) (hj : s.mu.joined = none) :
    (endClip c w s).mu.joined = none ∧ (endClip c w s).mu.requests = s.mu.requests ∧
    (endClip c w s).mu.waiting = s.mu.waiting ∧ (endClip c w s).mu.resetDue = s.mu.resetDue := by
  unfold endClip; dsimp only; (repeat' split) <;> simp (maxDischargeDepth := 40) [hj]

/-- What failAfterEnd leaves as it was. -/
@[simp] theorem failAfterEnd_frame (b : Bool) (c : ClipNo) (s : State) :
    (failAfterEnd b c s).wall = s.wall ∧ (failAfterEnd b c s).resetLine = s.resetLine ∧
    (failAfterEnd b c s).contribCarrier = s.contribCarrier ∧
    (failAfterEnd b c s).storCarrier = s.storCarrier ∧ (failAfterEnd b c s).holdLine = s.holdLine ∧
    (failAfterEnd b c s).port = s.port ∧ (failAfterEnd b c s).smc.level = s.smc.level ∧
    (failAfterEnd b c s).smc.raises = s.smc.raises ∧ (failAfterEnd b c s).bu.durA = s.bu.durA ∧
    (failAfterEnd b c s).bu.durB = s.bu.durB ∧ (failAfterEnd b c s).bu.serial = s.bu.serial ∧
    (failAfterEnd b c s).sw.settings = s.sw.settings ∧
    (failAfterEnd b c s).sw.retired = s.sw.retired ∧ (failAfterEnd b c s).sw.paused = s.sw.paused ∧
    (failAfterEnd b c s).sw.stray = s.sw.stray ∧ (failAfterEnd b c s).sw.readies = s.sw.readies ∧
    (failAfterEnd b c s).sw.foreign = s.sw.foreign ∧
    (failAfterEnd b c s).sw.lastMessages = s.sw.lastMessages ∧ (failAfterEnd b c s).fw = s.fw ∧
    (failAfterEnd b c s).mu.origins = s.mu.origins ∧
    (failAfterEnd b c s).mu.address = s.mu.address ∧
    (failAfterEnd b c s).mu.refusedOrigin = s.mu.refusedOrigin ∧
    (failAfterEnd b c s).mu.malformedRequests = s.mu.malformedRequests ∧
    (failAfterEnd b c s).mu.requestsDropped = s.mu.requestsDropped ∧
    (failAfterEnd b c s).mu.lastSent = s.mu.lastSent ∧ (failAfterEnd b c s).mu.sent = s.mu.sent ∧
    (failAfterEnd b c s).pending = s.pending ∧
    (∀ z : FeedNo, (failAfterEnd b c s).watchEntry z = s.watchEntry z) := by
  unfold failAfterEnd; (repeat' split) <;> simp

/-- With no join to meet, what failAfterEnd leaves of the requests and the waiting response. -/
@[simp] theorem failAfterEnd_unmet (b : Bool) (c : ClipNo) (s : State) (hj : s.mu.joined = none) :
    (failAfterEnd b c s).mu.joined = none ∧ (failAfterEnd b c s).mu.requests = s.mu.requests ∧
    (failAfterEnd b c s).mu.waiting = s.mu.waiting ∧
    (failAfterEnd b c s).mu.resetDue = s.mu.resetDue := by
  unfold failAfterEnd; (repeat' split) <;> simp (maxDischargeDepth := 40) [hj]

/-- What endRecording leaves as it was. -/
@[simp] theorem endRecording_frame (f : FeedNo) (c : ClipNo) (w : EndReason) (st : FeedState)
    (s : State) :
    (endRecording f c w st s).wall = s.wall ∧ (endRecording f c w st s).resetLine = s.resetLine ∧
    (endRecording f c w st s).contribCarrier = s.contribCarrier ∧
    (endRecording f c w st s).storCarrier = s.storCarrier ∧
    (endRecording f c w st s).holdLine = s.holdLine ∧ (endRecording f c w st s).port = s.port ∧
    (endRecording f c w st s).smc.level = s.smc.level ∧
    (endRecording f c w st s).smc.raises = s.smc.raises ∧
    (endRecording f c w st s).bu.durA = s.bu.durA ∧ (endRecording f c w st s).bu.durB = s.bu.durB ∧
    (endRecording f c w st s).bu.serial = s.bu.serial ∧
    (endRecording f c w st s).sw.settings = s.sw.settings ∧
    (endRecording f c w st s).sw.retired = s.sw.retired ∧
    (endRecording f c w st s).sw.paused = s.sw.paused ∧
    (endRecording f c w st s).sw.stray = s.sw.stray ∧
    (endRecording f c w st s).sw.readies = s.sw.readies ∧
    (endRecording f c w st s).sw.foreign = s.sw.foreign ∧
    (endRecording f c w st s).sw.lastMessages = s.sw.lastMessages ∧
    (endRecording f c w st s).fw = s.fw ∧ (endRecording f c w st s).mu.origins = s.mu.origins ∧
    (endRecording f c w st s).mu.address = s.mu.address ∧
    (endRecording f c w st s).mu.refusedOrigin = s.mu.refusedOrigin ∧
    (endRecording f c w st s).mu.malformedRequests = s.mu.malformedRequests ∧
    (endRecording f c w st s).mu.requestsDropped = s.mu.requestsDropped ∧
    (endRecording f c w st s).mu.lastSent = s.mu.lastSent ∧
    (endRecording f c w st s).mu.sent = s.mu.sent ∧ (endRecording f c w st s).pending = s.pending ∧
    (∀ z : FeedNo, (endRecording f c w st s).watchEntry z = s.watchEntry z) := by
  simp [endRecording]

/-- With no join to meet, what endRecording leaves of the requests and the waiting response. -/
@[simp] theorem endRecording_unmet (f : FeedNo) (c : ClipNo) (w : EndReason) (st : FeedState)
    (s : State) (hj : s.mu.joined = none) :
    (endRecording f c w st s).mu.joined = none ∧
    (endRecording f c w st s).mu.requests = s.mu.requests ∧
    (endRecording f c w st s).mu.waiting = s.mu.waiting ∧
    (endRecording f c w st s).mu.resetDue = s.mu.resetDue := by
  simp (maxDischargeDepth := 40) [endRecording, hj]

/-- What openClipOn leaves as it was. -/
@[simp] theorem openClipOn_frame (c : ClipNo) (f : FeedNo) (l : Nat) (o : Option (Tick × Tick))
    (s : State) :
    (openClipOn c f l o s).wall = s.wall ∧ (openClipOn c f l o s).resetLine = s.resetLine ∧
    (openClipOn c f l o s).contribCarrier = s.contribCarrier ∧
    (openClipOn c f l o s).storCarrier = s.storCarrier ∧
    (openClipOn c f l o s).holdLine = s.holdLine ∧ (openClipOn c f l o s).port = s.port ∧
    (openClipOn c f l o s).handedUnits = s.handedUnits ∧
    (openClipOn c f l o s).handedFrames = s.handedFrames ∧
    (openClipOn c f l o s).contexts = s.contexts ∧ (openClipOn c f l o s).smc = s.smc ∧
    (openClipOn c f l o s).rings = s.rings ∧ (openClipOn c f l o s).placed = s.placed ∧
    (openClipOn c f l o s).bu = s.bu ∧ (openClipOn c f l o s).sw = s.sw ∧
    (openClipOn c f l o s).fw = s.fw ∧ (openClipOn c f l o s).mu.origins = s.mu.origins ∧
    (openClipOn c f l o s).mu.address = s.mu.address ∧
    (openClipOn c f l o s).mu.devFlags = s.mu.devFlags ∧
    (openClipOn c f l o s).mu.feedFlags = s.mu.feedFlags ∧
    (openClipOn c f l o s).mu.refusedOrigin = s.mu.refusedOrigin ∧
    (openClipOn c f l o s).mu.malformedRequests = s.mu.malformedRequests ∧
    (openClipOn c f l o s).mu.requestsDropped = s.mu.requestsDropped ∧
    (openClipOn c f l o s).mu.lastSent = s.mu.lastSent ∧
    (openClipOn c f l o s).mu.sent = s.mu.sent ∧ (openClipOn c f l o s).nextSerial = s.nextSerial ∧
    (openClipOn c f l o s).pending = s.pending ∧
    (∀ z : FeedNo, (openClipOn c f l o s).contextsOf z = s.contextsOf z) ∧
    (∀ z : FeedNo, (openClipOn c f l o s).ring z = s.ring z) ∧
    (∀ z : FeedNo, (openClipOn c f l o s).holding z = s.holding z) ∧
    (∀ z : FeedNo, (openClipOn c f l o s).flagsOf z = s.flagsOf z) ∧
    (∀ z : FeedNo, (openClipOn c f l o s).watchEntry z = s.watchEntry z) := by
  simp [openClipOn]

/-- With no join to meet, what openClipOn leaves of the requests and the waiting response. -/
@[simp] theorem openClipOn_unmet (c : ClipNo) (f : FeedNo) (l : Nat) (o : Option (Tick × Tick))
    (s : State) (hj : s.mu.joined = none) :
    (openClipOn c f l o s).mu.joined = none ∧ (openClipOn c f l o s).mu.requests = s.mu.requests ∧
    (openClipOn c f l o s).mu.waiting = s.mu.waiting ∧
    (openClipOn c f l o s).mu.resetDue = s.mu.resetDue := by
  simp (maxDischargeDepth := 40) [openClipOn, hj]

/-- What openForFeed leaves as it was. -/
@[simp] theorem openForFeed_frame (c : ClipNo) (f : FeedNo) (l : Nat) (s : State) :
    (openForFeed c f l s).wall = s.wall ∧ (openForFeed c f l s).resetLine = s.resetLine ∧
    (openForFeed c f l s).contribCarrier = s.contribCarrier ∧
    (openForFeed c f l s).storCarrier = s.storCarrier ∧
    (openForFeed c f l s).holdLine = s.holdLine ∧ (openForFeed c f l s).port = s.port ∧
    (openForFeed c f l s).handedUnits = s.handedUnits ∧
    (openForFeed c f l s).handedFrames = s.handedFrames ∧
    (openForFeed c f l s).contexts = s.contexts ∧ (openForFeed c f l s).smc = s.smc ∧
    (openForFeed c f l s).rings = s.rings ∧ (openForFeed c f l s).placed = s.placed ∧
    (openForFeed c f l s).bu = s.bu ∧ (openForFeed c f l s).sw = s.sw ∧
    (openForFeed c f l s).fw = s.fw ∧ (openForFeed c f l s).mu.origins = s.mu.origins ∧
    (openForFeed c f l s).mu.address = s.mu.address ∧
    (openForFeed c f l s).mu.devFlags = s.mu.devFlags ∧
    (openForFeed c f l s).mu.refusedOrigin = s.mu.refusedOrigin ∧
    (openForFeed c f l s).mu.malformedRequests = s.mu.malformedRequests ∧
    (openForFeed c f l s).mu.requestsDropped = s.mu.requestsDropped ∧
    (openForFeed c f l s).mu.lastSent = s.mu.lastSent ∧ (openForFeed c f l s).mu.sent = s.mu.sent ∧
    (openForFeed c f l s).nextSerial = s.nextSerial ∧ (openForFeed c f l s).pending = s.pending ∧
    (∀ z : FeedNo, (openForFeed c f l s).contextsOf z = s.contextsOf z) ∧
    (∀ z : FeedNo, (openForFeed c f l s).ring z = s.ring z) ∧
    (∀ z : FeedNo, (openForFeed c f l s).holding z = s.holding z) ∧
    (∀ z : FeedNo, (openForFeed c f l s).watchEntry z = s.watchEntry z) := by
  simp [openForFeed]

/-- With no join to meet, what openForFeed leaves of the requests and the waiting response. -/
@[simp] theorem openForFeed_unmet (c : ClipNo) (f : FeedNo) (l : Nat) (s : State)
    (hj : s.mu.joined = none) :
    (openForFeed c f l s).mu.joined = none ∧ (openForFeed c f l s).mu.requests = s.mu.requests ∧
    (openForFeed c f l s).mu.waiting = s.mu.waiting ∧
    (openForFeed c f l s).mu.resetDue = s.mu.resetDue := by
  simp (maxDischargeDepth := 40) [openForFeed, hj]

/-- What retryStalled leaves as it was. -/
@[simp] theorem retryStalled_frame (f : FeedNo) (s : State) :
    (retryStalled f s).wall = s.wall ∧ (retryStalled f s).resetLine = s.resetLine ∧
    (retryStalled f s).contribCarrier = s.contribCarrier ∧
    (retryStalled f s).storCarrier = s.storCarrier ∧ (retryStalled f s).holdLine = s.holdLine ∧
    (retryStalled f s).port = s.port ∧ (retryStalled f s).handedUnits = s.handedUnits ∧
    (retryStalled f s).handedFrames = s.handedFrames ∧ (retryStalled f s).contexts = s.contexts ∧
    (retryStalled f s).smc = s.smc ∧ (retryStalled f s).rings = s.rings ∧
    (retryStalled f s).placed = s.placed ∧ (retryStalled f s).bu = s.bu ∧
    (retryStalled f s).sw = s.sw ∧ (retryStalled f s).fw = s.fw ∧
    (retryStalled f s).mu.origins = s.mu.origins ∧ (retryStalled f s).mu.address = s.mu.address ∧
    (retryStalled f s).mu.devFlags = s.mu.devFlags ∧
    (retryStalled f s).mu.refusedOrigin = s.mu.refusedOrigin ∧
    (retryStalled f s).mu.malformedRequests = s.mu.malformedRequests ∧
    (retryStalled f s).mu.requestsDropped = s.mu.requestsDropped ∧
    (retryStalled f s).mu.lastSent = s.mu.lastSent ∧ (retryStalled f s).mu.sent = s.mu.sent ∧
    (retryStalled f s).nextSerial = s.nextSerial ∧ (retryStalled f s).pending = s.pending ∧
    (∀ z : FeedNo, (retryStalled f s).contextsOf z = s.contextsOf z) ∧
    (∀ z : FeedNo, (retryStalled f s).ring z = s.ring z) ∧
    (∀ z : FeedNo, (retryStalled f s).holding z = s.holding z) ∧
    (∀ z : FeedNo, (retryStalled f s).watchEntry z = s.watchEntry z) := by
  unfold retryStalled; (repeat' split) <;> simp

/-- With no join to meet, what retryStalled leaves of the requests and the waiting response. -/
@[simp] theorem retryStalled_unmet (f : FeedNo) (s : State) (hj : s.mu.joined = none) :
    (retryStalled f s).mu.joined = none ∧ (retryStalled f s).mu.requests = s.mu.requests ∧
    (retryStalled f s).mu.waiting = s.mu.waiting ∧
    (retryStalled f s).mu.resetDue = s.mu.resetDue := by
  unfold retryStalled; (repeat' split) <;> simp (maxDischargeDepth := 40) [hj]

/-- What indexOk leaves as it was. -/
@[simp] theorem indexOk_frame (e : WriteEntry) (s : State) :
    (indexOk e s).wall = s.wall ∧ (indexOk e s).resetLine = s.resetLine ∧
    (indexOk e s).contribCarrier = s.contribCarrier ∧ (indexOk e s).storCarrier = s.storCarrier ∧
    (indexOk e s).holdLine = s.holdLine ∧ (indexOk e s).feeds = s.feeds ∧
    (indexOk e s).port = s.port ∧ (indexOk e s).handedUnits = s.handedUnits ∧
    (indexOk e s).handedFrames = s.handedFrames ∧ (indexOk e s).contexts = s.contexts ∧
    (indexOk e s).smc.level = s.smc.level ∧ (indexOk e s).smc.holdings = s.smc.holdings ∧
    (indexOk e s).smc.raises = s.smc.raises ∧ (indexOk e s).rings = s.rings ∧
    (indexOk e s).bu.durA = s.bu.durA ∧ (indexOk e s).bu.durB = s.bu.durB ∧
    (indexOk e s).bu.serial = s.bu.serial ∧ (indexOk e s).sw.settings = s.sw.settings ∧
    (indexOk e s).sw.retired = s.sw.retired ∧ (indexOk e s).sw.paused = s.sw.paused ∧
    (indexOk e s).sw.records = s.sw.records ∧ (indexOk e s).sw.stray = s.sw.stray ∧
    (indexOk e s).sw.readies = s.sw.readies ∧ (indexOk e s).sw.foreign = s.sw.foreign ∧
    (indexOk e s).sw.lastMessages = s.sw.lastMessages ∧ (indexOk e s).fw = s.fw ∧
    (indexOk e s).mu.origins = s.mu.origins ∧ (indexOk e s).mu.address = s.mu.address ∧
    (indexOk e s).mu.feedFlags = s.mu.feedFlags ∧
    (indexOk e s).mu.refusedOrigin = s.mu.refusedOrigin ∧
    (indexOk e s).mu.malformedRequests = s.mu.malformedRequests ∧
    (indexOk e s).mu.requestsDropped = s.mu.requestsDropped ∧
    (indexOk e s).mu.lastSent = s.mu.lastSent ∧ (indexOk e s).mu.sent = s.mu.sent ∧
    (indexOk e s).pending = s.pending ∧ (∀ z : FeedNo, (indexOk e s).feed z = s.feed z) ∧
    (∀ z : FeedNo, (indexOk e s).contextsOf z = s.contextsOf z) ∧
    (∀ z : FeedNo, (indexOk e s).ring z = s.ring z) ∧
    (∀ z : FeedNo, (indexOk e s).holding z = s.holding z) ∧
    (∀ z : FeedNo, (indexOk e s).flagsOf z = s.flagsOf z) ∧
    (∀ z : FeedNo, (indexOk e s).watchEntry z = s.watchEntry z) := by
  unfold indexOk; dsimp only; (repeat' split) <;> simp

/-- With no join to meet, what indexOk leaves of the requests and the waiting response. -/
@[simp] theorem indexOk_unmet (e : WriteEntry) (s : State) (hj : s.mu.joined = none) :
    (indexOk e s).mu.joined = none ∧ (indexOk e s).mu.requests = s.mu.requests ∧
    (indexOk e s).mu.waiting = s.mu.waiting ∧ (indexOk e s).mu.resetDue = s.mu.resetDue := by
  unfold indexOk; dsimp only; (repeat' split) <;> simp (maxDischargeDepth := 40) [hj]

end Sys2Proof.Machine
end

