-- ==== Sys2Proof/Laws/Placement.lean ====
section
/-! SUPPORT. The frames of the Placement Engine's operations (Machine/Placement.lean), and how an entry joins a
ring. -/

namespace Sys2Proof.Machine

set_option Elab.async false

/-- What discardFrame leaves as it was. -/
@[simp] theorem discardFrame_frame (f : FeedNo) (x : Frame) (s : State) :
    (discardFrame f x s).wall = s.wall ∧ (discardFrame f x s).resetLine = s.resetLine ∧
    (discardFrame f x s).contribCarrier = s.contribCarrier ∧
    (discardFrame f x s).storCarrier = s.storCarrier ∧ (discardFrame f x s).holdLine = s.holdLine ∧
    (discardFrame f x s).feeds = s.feeds ∧ (discardFrame f x s).port = s.port ∧
    (discardFrame f x s).handedUnits = s.handedUnits ∧
    (discardFrame f x s).handedFrames = s.handedFrames ∧
    (discardFrame f x s).contexts = s.contexts ∧ (discardFrame f x s).smc.level = s.smc.level ∧
    (discardFrame f x s).smc.raises = s.smc.raises ∧ (discardFrame f x s).rings = s.rings ∧
    (discardFrame f x s).placed = s.placed ∧ (discardFrame f x s).clips = s.clips ∧
    (discardFrame f x s).bu = s.bu ∧ (discardFrame f x s).sw = s.sw ∧
    (discardFrame f x s).fw = s.fw ∧ (discardFrame f x s).mu.origins = s.mu.origins ∧
    (discardFrame f x s).mu.address = s.mu.address ∧
    (discardFrame f x s).mu.feedFlags = s.mu.feedFlags ∧
    (discardFrame f x s).mu.refusedOrigin = s.mu.refusedOrigin ∧
    (discardFrame f x s).mu.malformedRequests = s.mu.malformedRequests ∧
    (discardFrame f x s).mu.requestsDropped = s.mu.requestsDropped ∧
    (discardFrame f x s).mu.lastSent = s.mu.lastSent ∧ (discardFrame f x s).mu.sent = s.mu.sent ∧
    (discardFrame f x s).nextSerial = s.nextSerial ∧ (discardFrame f x s).pending = s.pending ∧
    (∀ z : FeedNo, (discardFrame f x s).feed z = s.feed z) ∧
    (∀ z : ClipNo, (discardFrame f x s).clip z = s.clip z) ∧
    (∀ z : FeedNo, (discardFrame f x s).contextsOf z = s.contextsOf z) ∧
    (∀ z : FeedNo, (discardFrame f x s).ring z = s.ring z) ∧
    (∀ z : FeedNo, (discardFrame f x s).flagsOf z = s.flagsOf z) ∧
    (∀ z : FeedNo, (discardFrame f x s).watchEntry z = s.watchEntry z) := by
  simp [discardFrame]

/-- With no join to meet, what discardFrame leaves of the requests and the waiting response. -/
@[simp] theorem discardFrame_unmet (f : FeedNo) (x : Frame) (s : State) (hj : s.mu.joined = none) :
    (discardFrame f x s).mu.joined = none ∧ (discardFrame f x s).mu.requests = s.mu.requests ∧
    (discardFrame f x s).mu.waiting = s.mu.waiting ∧
    (discardFrame f x s).mu.resetDue = s.mu.resetDue := by
  simp (maxDischargeDepth := 40) [discardFrame, hj]

/-- What discardLate leaves as it was. -/
@[simp] theorem discardLate_frame (f : FeedNo) (x : Frame) (s : State) :
    (discardLate f x s).wall = s.wall ∧ (discardLate f x s).resetLine = s.resetLine ∧
    (discardLate f x s).contribCarrier = s.contribCarrier ∧
    (discardLate f x s).storCarrier = s.storCarrier ∧ (discardLate f x s).holdLine = s.holdLine ∧
    (discardLate f x s).port = s.port ∧ (discardLate f x s).handedUnits = s.handedUnits ∧
    (discardLate f x s).handedFrames = s.handedFrames ∧ (discardLate f x s).contexts = s.contexts ∧
    (discardLate f x s).smc.level = s.smc.level ∧ (discardLate f x s).smc.raises = s.smc.raises ∧
    (discardLate f x s).rings = s.rings ∧ (discardLate f x s).placed = s.placed ∧
    (discardLate f x s).clips = s.clips ∧ (discardLate f x s).bu = s.bu ∧
    (discardLate f x s).sw = s.sw ∧ (discardLate f x s).fw = s.fw ∧
    (discardLate f x s).mu.origins = s.mu.origins ∧ (discardLate f x s).mu.address = s.mu.address ∧
    (discardLate f x s).mu.refusedOrigin = s.mu.refusedOrigin ∧
    (discardLate f x s).mu.malformedRequests = s.mu.malformedRequests ∧
    (discardLate f x s).mu.requestsDropped = s.mu.requestsDropped ∧
    (discardLate f x s).mu.lastSent = s.mu.lastSent ∧ (discardLate f x s).mu.sent = s.mu.sent ∧
    (discardLate f x s).nextSerial = s.nextSerial ∧ (discardLate f x s).pending = s.pending ∧
    (∀ z : ClipNo, (discardLate f x s).clip z = s.clip z) ∧
    (∀ z : FeedNo, (discardLate f x s).contextsOf z = s.contextsOf z) ∧
    (∀ z : FeedNo, (discardLate f x s).ring z = s.ring z) ∧
    (∀ z : FeedNo, (discardLate f x s).watchEntry z = s.watchEntry z) := by
  simp [discardLate]

/-- With no join to meet, what discardLate leaves of the requests and the waiting response. -/
@[simp] theorem discardLate_unmet (f : FeedNo) (x : Frame) (s : State) (hj : s.mu.joined = none) :
    (discardLate f x s).mu.joined = none ∧ (discardLate f x s).mu.requests = s.mu.requests ∧
    (discardLate f x s).mu.waiting = s.mu.waiting ∧
    (discardLate f x s).mu.resetDue = s.mu.resetDue := by
  simp (maxDischargeDepth := 40) [discardLate, hj]

/-- What discardDuplicate leaves as it was. -/
@[simp] theorem discardDuplicate_frame (f : FeedNo) (x : Frame) (s : State) :
    (discardDuplicate f x s).wall = s.wall ∧ (discardDuplicate f x s).resetLine = s.resetLine ∧
    (discardDuplicate f x s).contribCarrier = s.contribCarrier ∧
    (discardDuplicate f x s).storCarrier = s.storCarrier ∧
    (discardDuplicate f x s).holdLine = s.holdLine ∧ (discardDuplicate f x s).port = s.port ∧
    (discardDuplicate f x s).handedUnits = s.handedUnits ∧
    (discardDuplicate f x s).handedFrames = s.handedFrames ∧
    (discardDuplicate f x s).contexts = s.contexts ∧
    (discardDuplicate f x s).smc.level = s.smc.level ∧
    (discardDuplicate f x s).smc.raises = s.smc.raises ∧ (discardDuplicate f x s).rings = s.rings ∧
    (discardDuplicate f x s).placed = s.placed ∧ (discardDuplicate f x s).clips = s.clips ∧
    (discardDuplicate f x s).bu = s.bu ∧ (discardDuplicate f x s).sw = s.sw ∧
    (discardDuplicate f x s).fw = s.fw ∧ (discardDuplicate f x s).mu.origins = s.mu.origins ∧
    (discardDuplicate f x s).mu.address = s.mu.address ∧
    (discardDuplicate f x s).mu.feedFlags = s.mu.feedFlags ∧
    (discardDuplicate f x s).mu.refusedOrigin = s.mu.refusedOrigin ∧
    (discardDuplicate f x s).mu.malformedRequests = s.mu.malformedRequests ∧
    (discardDuplicate f x s).mu.requestsDropped = s.mu.requestsDropped ∧
    (discardDuplicate f x s).mu.lastSent = s.mu.lastSent ∧
    (discardDuplicate f x s).mu.sent = s.mu.sent ∧
    (discardDuplicate f x s).nextSerial = s.nextSerial ∧
    (discardDuplicate f x s).pending = s.pending ∧
    (∀ z : ClipNo, (discardDuplicate f x s).clip z = s.clip z) ∧
    (∀ z : FeedNo, (discardDuplicate f x s).contextsOf z = s.contextsOf z) ∧
    (∀ z : FeedNo, (discardDuplicate f x s).ring z = s.ring z) ∧
    (∀ z : FeedNo, (discardDuplicate f x s).flagsOf z = s.flagsOf z) ∧
    (∀ z : FeedNo, (discardDuplicate f x s).watchEntry z = s.watchEntry z) := by
  simp [discardDuplicate]

/-- With no join to meet, what discardDuplicate leaves of the requests and the waiting response. -/
@[simp] theorem discardDuplicate_unmet (f : FeedNo) (x : Frame) (s : State)
    (hj : s.mu.joined = none) :
    (discardDuplicate f x s).mu.joined = none ∧
    (discardDuplicate f x s).mu.requests = s.mu.requests ∧
    (discardDuplicate f x s).mu.waiting = s.mu.waiting ∧
    (discardDuplicate f x s).mu.resetDue = s.mu.resetDue := by
  simp (maxDischargeDepth := 40) [discardDuplicate, hj]

/-- What discardOverrun leaves as it was. -/
@[simp] theorem discardOverrun_frame (f : FeedNo) (x : Frame) (s : State) :
    (discardOverrun f x s).wall = s.wall ∧ (discardOverrun f x s).resetLine = s.resetLine ∧
    (discardOverrun f x s).contribCarrier = s.contribCarrier ∧
    (discardOverrun f x s).storCarrier = s.storCarrier ∧
    (discardOverrun f x s).holdLine = s.holdLine ∧ (discardOverrun f x s).port = s.port ∧
    (discardOverrun f x s).handedUnits = s.handedUnits ∧
    (discardOverrun f x s).handedFrames = s.handedFrames ∧
    (discardOverrun f x s).contexts = s.contexts ∧ (discardOverrun f x s).smc.level = s.smc.level ∧
    (discardOverrun f x s).smc.raises = s.smc.raises ∧ (discardOverrun f x s).rings = s.rings ∧
    (discardOverrun f x s).placed = s.placed ∧ (discardOverrun f x s).clips = s.clips ∧
    (discardOverrun f x s).bu = s.bu ∧ (discardOverrun f x s).sw = s.sw ∧
    (discardOverrun f x s).fw = s.fw ∧ (discardOverrun f x s).mu.origins = s.mu.origins ∧
    (discardOverrun f x s).mu.address = s.mu.address ∧
    (discardOverrun f x s).mu.refusedOrigin = s.mu.refusedOrigin ∧
    (discardOverrun f x s).mu.malformedRequests = s.mu.malformedRequests ∧
    (discardOverrun f x s).mu.requestsDropped = s.mu.requestsDropped ∧
    (discardOverrun f x s).mu.lastSent = s.mu.lastSent ∧
    (discardOverrun f x s).mu.sent = s.mu.sent ∧ (discardOverrun f x s).nextSerial = s.nextSerial ∧
    (discardOverrun f x s).pending = s.pending ∧
    (∀ z : ClipNo, (discardOverrun f x s).clip z = s.clip z) ∧
    (∀ z : FeedNo, (discardOverrun f x s).contextsOf z = s.contextsOf z) ∧
    (∀ z : FeedNo, (discardOverrun f x s).ring z = s.ring z) ∧
    (∀ z : FeedNo, (discardOverrun f x s).watchEntry z = s.watchEntry z) := by
  simp [discardOverrun]

/-- With no join to meet, what discardOverrun leaves of the requests and the waiting response. -/
@[simp] theorem discardOverrun_unmet (f : FeedNo) (x : Frame) (s : State)
    (hj : s.mu.joined = none) :
    (discardOverrun f x s).mu.joined = none ∧ (discardOverrun f x s).mu.requests = s.mu.requests ∧
    (discardOverrun f x s).mu.waiting = s.mu.waiting ∧
    (discardOverrun f x s).mu.resetDue = s.mu.resetDue := by
  simp (maxDischargeDepth := 40) [discardOverrun, hj]

/-- What countOffGrid leaves as it was. -/
@[simp] theorem countOffGrid_frame (f : FeedNo) (b : Bool) (s : State) :
    (countOffGrid f b s).wall = s.wall ∧ (countOffGrid f b s).resetLine = s.resetLine ∧
    (countOffGrid f b s).contribCarrier = s.contribCarrier ∧
    (countOffGrid f b s).storCarrier = s.storCarrier ∧ (countOffGrid f b s).holdLine = s.holdLine ∧
    (countOffGrid f b s).port = s.port ∧ (countOffGrid f b s).handedUnits = s.handedUnits ∧
    (countOffGrid f b s).handedFrames = s.handedFrames ∧
    (countOffGrid f b s).contexts = s.contexts ∧ (countOffGrid f b s).smc = s.smc ∧
    (countOffGrid f b s).rings = s.rings ∧ (countOffGrid f b s).placed = s.placed ∧
    (countOffGrid f b s).clips = s.clips ∧ (countOffGrid f b s).bu = s.bu ∧
    (countOffGrid f b s).sw = s.sw ∧ (countOffGrid f b s).fw = s.fw ∧
    (countOffGrid f b s).mu = s.mu ∧ (countOffGrid f b s).nextSerial = s.nextSerial ∧
    (countOffGrid f b s).pending = s.pending ∧
    (∀ z : ClipNo, (countOffGrid f b s).clip z = s.clip z) ∧
    (∀ z : FeedNo, (countOffGrid f b s).contextsOf z = s.contextsOf z) ∧
    (∀ z : FeedNo, (countOffGrid f b s).ring z = s.ring z) ∧
    (∀ z : FeedNo, (countOffGrid f b s).holding z = s.holding z) ∧
    (∀ z : FeedNo, (countOffGrid f b s).flagsOf z = s.flagsOf z) ∧
    (∀ z : FeedNo, (countOffGrid f b s).watchEntry z = s.watchEntry z) := by
  unfold countOffGrid; (repeat' split) <;> simp

/-- What judgePick leaves as it was. -/
@[simp] theorem judgePick_frame (f : FeedNo) (c : ClipNo) (p : Nat) (w : Placed) (s : State) :
    (judgePick f c p w s).1.wall = s.wall ∧ (judgePick f c p w s).1.resetLine = s.resetLine ∧
    (judgePick f c p w s).1.contribCarrier = s.contribCarrier ∧
    (judgePick f c p w s).1.storCarrier = s.storCarrier ∧
    (judgePick f c p w s).1.holdLine = s.holdLine ∧ (judgePick f c p w s).1.feeds = s.feeds ∧
    (judgePick f c p w s).1.port = s.port ∧ (judgePick f c p w s).1.handedUnits = s.handedUnits ∧
    (judgePick f c p w s).1.handedFrames = s.handedFrames ∧
    (judgePick f c p w s).1.contexts = s.contexts ∧ (judgePick f c p w s).1.smc = s.smc ∧
    (judgePick f c p w s).1.rings = s.rings ∧ (judgePick f c p w s).1.placed = s.placed ∧
    (judgePick f c p w s).1.clips = s.clips ∧ (judgePick f c p w s).1.bu.step = s.bu.step ∧
    (judgePick f c p w s).1.bu.durA = s.bu.durA ∧ (judgePick f c p w s).1.bu.durB = s.bu.durB ∧
    (judgePick f c p w s).1.bu.serial = s.bu.serial ∧ (judgePick f c p w s).1.sw = s.sw ∧
    (judgePick f c p w s).1.fw = s.fw ∧ (judgePick f c p w s).1.mu = s.mu ∧
    (judgePick f c p w s).1.nextSerial = s.nextSerial ∧
    (judgePick f c p w s).1.pending = s.pending ∧
    (∀ z : FeedNo, (judgePick f c p w s).1.feed z = s.feed z) ∧
    (∀ z : ClipNo, (judgePick f c p w s).1.clip z = s.clip z) ∧
    (∀ z : FeedNo, (judgePick f c p w s).1.contextsOf z = s.contextsOf z) ∧
    (∀ z : FeedNo, (judgePick f c p w s).1.ring z = s.ring z) ∧
    (∀ z : FeedNo, (judgePick f c p w s).1.holding z = s.holding z) ∧
    (∀ z : FeedNo, (judgePick f c p w s).1.flagsOf z = s.flagsOf z) ∧
    (∀ z : FeedNo, (judgePick f c p w s).1.watchEntry z = s.watchEntry z) := by
  unfold judgePick; dsimp only; (repeat' split) <;> simp (maxDischargeDepth := 40) [State.feed, State.clip, State.contextsOf, State.ring,
    State.holding, State.flagsOf, State.watchEntry]

/-- What browseStep leaves as it was. -/
@[simp] theorem browseStep_frame (f : FeedNo) (c : ClipNo) (w : Placed) (m : Bool) (s : State) :
    (browseStep f c w m s).1.wall = s.wall ∧ (browseStep f c w m s).1.resetLine = s.resetLine ∧
    (browseStep f c w m s).1.contribCarrier = s.contribCarrier ∧
    (browseStep f c w m s).1.storCarrier = s.storCarrier ∧
    (browseStep f c w m s).1.holdLine = s.holdLine ∧ (browseStep f c w m s).1.feeds = s.feeds ∧
    (browseStep f c w m s).1.port = s.port ∧ (browseStep f c w m s).1.handedUnits = s.handedUnits ∧
    (browseStep f c w m s).1.handedFrames = s.handedFrames ∧
    (browseStep f c w m s).1.contexts = s.contexts ∧ (browseStep f c w m s).1.smc = s.smc ∧
    (browseStep f c w m s).1.rings = s.rings ∧ (browseStep f c w m s).1.placed = s.placed ∧
    (browseStep f c w m s).1.bu.step = s.bu.step ∧ (browseStep f c w m s).1.bu.durA = s.bu.durA ∧
    (browseStep f c w m s).1.bu.durB = s.bu.durB ∧
    (browseStep f c w m s).1.bu.serial = s.bu.serial ∧ (browseStep f c w m s).1.sw = s.sw ∧
    (browseStep f c w m s).1.fw = s.fw ∧ (browseStep f c w m s).1.mu = s.mu ∧
    (browseStep f c w m s).1.nextSerial = s.nextSerial ∧
    (browseStep f c w m s).1.pending = s.pending ∧
    (∀ z : FeedNo, (browseStep f c w m s).1.feed z = s.feed z) ∧
    (∀ z : FeedNo, (browseStep f c w m s).1.contextsOf z = s.contextsOf z) ∧
    (∀ z : FeedNo, (browseStep f c w m s).1.ring z = s.ring z) ∧
    (∀ z : FeedNo, (browseStep f c w m s).1.holding z = s.holding z) ∧
    (∀ z : FeedNo, (browseStep f c w m s).1.flagsOf z = s.flagsOf z) ∧
    (∀ z : FeedNo, (browseStep f c w m s).1.watchEntry z = s.watchEntry z) := by
  unfold browseStep; dsimp only; (repeat' split) <;> simp

/-- What shortClose leaves as it was. -/
@[simp] theorem shortClose_frame (c : ClipNo) (w : Placed) (o : BrowseOutcome) (s : State) :
    (shortClose c w o s).wall = s.wall ∧ (shortClose c w o s).resetLine = s.resetLine ∧
    (shortClose c w o s).contribCarrier = s.contribCarrier ∧
    (shortClose c w o s).storCarrier = s.storCarrier ∧ (shortClose c w o s).holdLine = s.holdLine ∧
    (shortClose c w o s).port = s.port ∧ (shortClose c w o s).smc.level = s.smc.level ∧
    (shortClose c w o s).smc.raises = s.smc.raises ∧ (shortClose c w o s).bu.durA = s.bu.durA ∧
    (shortClose c w o s).bu.durB = s.bu.durB ∧ (shortClose c w o s).bu.serial = s.bu.serial ∧
    (shortClose c w o s).sw.settings = s.sw.settings ∧
    (shortClose c w o s).sw.retired = s.sw.retired ∧ (shortClose c w o s).sw.paused = s.sw.paused ∧
    (shortClose c w o s).sw.stray = s.sw.stray ∧ (shortClose c w o s).sw.readies = s.sw.readies ∧
    (shortClose c w o s).sw.foreign = s.sw.foreign ∧
    (shortClose c w o s).sw.lastMessages = s.sw.lastMessages ∧ (shortClose c w o s).fw = s.fw ∧
    (shortClose c w o s).mu.origins = s.mu.origins ∧
    (shortClose c w o s).mu.address = s.mu.address ∧
    (shortClose c w o s).mu.refusedOrigin = s.mu.refusedOrigin ∧
    (shortClose c w o s).mu.malformedRequests = s.mu.malformedRequests ∧
    (shortClose c w o s).mu.requestsDropped = s.mu.requestsDropped ∧
    (shortClose c w o s).mu.lastSent = s.mu.lastSent ∧ (shortClose c w o s).mu.sent = s.mu.sent ∧
    (shortClose c w o s).pending = s.pending ∧
    (∀ z : FeedNo, (shortClose c w o s).watchEntry z = s.watchEntry z) := by
  unfold shortClose; (repeat' split) <;> simp

/-- With no join to meet, what shortClose leaves of the requests and the waiting response. -/
@[simp] theorem shortClose_unmet (c : ClipNo) (w : Placed) (o : BrowseOutcome) (s : State)
    (hj : s.mu.joined = none) :
    (shortClose c w o s).mu.joined = none ∧ (shortClose c w o s).mu.requests = s.mu.requests ∧
    (shortClose c w o s).mu.waiting = s.mu.waiting ∧
    (shortClose c w o s).mu.resetDue = s.mu.resetDue := by
  unfold shortClose; (repeat' split) <;> simp (maxDischargeDepth := 40) [hj]

/-- What closeAtS leaves as it was. -/
@[simp] theorem closeAtS_frame (c : ClipNo) (s : State) :
    (closeAtS c s).wall = s.wall ∧ (closeAtS c s).resetLine = s.resetLine ∧
    (closeAtS c s).contribCarrier = s.contribCarrier ∧ (closeAtS c s).storCarrier = s.storCarrier ∧
    (closeAtS c s).holdLine = s.holdLine ∧ (closeAtS c s).port = s.port ∧
    (closeAtS c s).smc.level = s.smc.level ∧ (closeAtS c s).smc.raises = s.smc.raises ∧
    (closeAtS c s).bu.durA = s.bu.durA ∧ (closeAtS c s).bu.durB = s.bu.durB ∧
    (closeAtS c s).bu.serial = s.bu.serial ∧ (closeAtS c s).sw.settings = s.sw.settings ∧
    (closeAtS c s).sw.retired = s.sw.retired ∧ (closeAtS c s).sw.paused = s.sw.paused ∧
    (closeAtS c s).sw.stray = s.sw.stray ∧ (closeAtS c s).sw.readies = s.sw.readies ∧
    (closeAtS c s).sw.foreign = s.sw.foreign ∧ (closeAtS c s).sw.lastMessages = s.sw.lastMessages ∧
    (closeAtS c s).fw = s.fw ∧ (closeAtS c s).mu.origins = s.mu.origins ∧
    (closeAtS c s).mu.address = s.mu.address ∧
    (closeAtS c s).mu.refusedOrigin = s.mu.refusedOrigin ∧
    (closeAtS c s).mu.malformedRequests = s.mu.malformedRequests ∧
    (closeAtS c s).mu.requestsDropped = s.mu.requestsDropped ∧
    (closeAtS c s).mu.lastSent = s.mu.lastSent ∧ (closeAtS c s).mu.sent = s.mu.sent ∧
    (closeAtS c s).pending = s.pending ∧
    (∀ z : FeedNo, (closeAtS c s).watchEntry z = s.watchEntry z) := by
  unfold closeAtS; (repeat' split) <;> simp

/-- With no join to meet, what closeAtS leaves of the requests and the waiting response. -/
@[simp] theorem closeAtS_unmet (c : ClipNo) (s : State) (hj : s.mu.joined = none) :
    (closeAtS c s).mu.joined = none ∧ (closeAtS c s).mu.requests = s.mu.requests ∧
    (closeAtS c s).mu.waiting = s.mu.waiting ∧ (closeAtS c s).mu.resetDue = s.mu.resetDue := by
  unfold closeAtS; (repeat' split) <;> simp (maxDischargeDepth := 40) [hj]

/-- What countIndex leaves as it was. -/
@[simp] theorem countIndex_frame (f : FeedNo) (c : ClipNo) (w : Placed) (m : Bool) (s : State) :
    (countIndex f c w m s).1.wall = s.wall ∧ (countIndex f c w m s).1.resetLine = s.resetLine ∧
    (countIndex f c w m s).1.contribCarrier = s.contribCarrier ∧
    (countIndex f c w m s).1.storCarrier = s.storCarrier ∧
    (countIndex f c w m s).1.holdLine = s.holdLine ∧ (countIndex f c w m s).1.port = s.port ∧
    (countIndex f c w m s).1.smc.level = s.smc.level ∧
    (countIndex f c w m s).1.smc.raises = s.smc.raises ∧
    (countIndex f c w m s).1.bu.durA = s.bu.durA ∧ (countIndex f c w m s).1.bu.durB = s.bu.durB ∧
    (countIndex f c w m s).1.bu.serial = s.bu.serial ∧
    (countIndex f c w m s).1.sw.settings = s.sw.settings ∧
    (countIndex f c w m s).1.sw.retired = s.sw.retired ∧
    (countIndex f c w m s).1.sw.paused = s.sw.paused ∧
    (countIndex f c w m s).1.sw.stray = s.sw.stray ∧
    (countIndex f c w m s).1.sw.readies = s.sw.readies ∧
    (countIndex f c w m s).1.sw.foreign = s.sw.foreign ∧
    (countIndex f c w m s).1.sw.lastMessages = s.sw.lastMessages ∧
    (countIndex f c w m s).1.fw = s.fw ∧ (countIndex f c w m s).1.mu.origins = s.mu.origins ∧
    (countIndex f c w m s).1.mu.address = s.mu.address ∧
    (countIndex f c w m s).1.mu.refusedOrigin = s.mu.refusedOrigin ∧
    (countIndex f c w m s).1.mu.malformedRequests = s.mu.malformedRequests ∧
    (countIndex f c w m s).1.mu.requestsDropped = s.mu.requestsDropped ∧
    (countIndex f c w m s).1.mu.lastSent = s.mu.lastSent ∧
    (countIndex f c w m s).1.mu.sent = s.mu.sent ∧ (countIndex f c w m s).1.pending = s.pending ∧
    (∀ z : FeedNo, (countIndex f c w m s).1.watchEntry z = s.watchEntry z) := by
  unfold countIndex; dsimp only; (repeat' split) <;> simp (maxDischargeDepth := 40) [State.feed, State.clip, State.contextsOf, State.ring,
    State.holding, State.flagsOf, State.watchEntry]

/-- With no join to meet, what countIndex leaves of the requests and the waiting response. -/
@[simp] theorem countIndex_unmet (f : FeedNo) (c : ClipNo) (w : Placed) (m : Bool) (s : State)
    (hj : s.mu.joined = none) :
    (countIndex f c w m s).1.mu.joined = none ∧
    (countIndex f c w m s).1.mu.requests = s.mu.requests ∧
    (countIndex f c w m s).1.mu.waiting = s.mu.waiting ∧
    (countIndex f c w m s).1.mu.resetDue = s.mu.resetDue := by
  unfold countIndex; dsimp only; (repeat' split) <;> simp (maxDischargeDepth := 40) [hj]

/-- What insertEntry puts in a ring: its entry beside the ring's. -/
theorem insertEntry_perm (e : RingEntry) (l : List RingEntry) : (insertEntry e l).Perm (e :: l) := by
  induction l with
  | nil => exact .refl _
  | cons x xs ih =>
    unfold insertEntry
    split
    · exact .refl _
    · exact (ih.cons x).trans (.swap e x xs)

/-- insertEntry keeps a ring's index order where the ring does not hold the index (R57). -/
theorem insertEntry_ascending (e : RingEntry) (l : List RingEntry)
    (h : l.Pairwise (fun x y => x.index < y.index)) (hn : ∀ x ∈ l, x.index ≠ e.index) :
    (insertEntry e l).Pairwise (fun x y => x.index < y.index) := by
  induction l with
  | nil => exact List.pairwise_singleton _ _
  | cons x xs ih =>
    obtain ⟨hx, hxs⟩ := List.pairwise_cons.mp h
    have hne := hn x List.mem_cons_self
    unfold insertEntry
    split
    case isTrue hlt =>
      refine List.pairwise_cons.mpr ⟨fun y hy => ?_, h⟩
      rcases List.mem_cons.mp hy with rfl | hy
      · exact hlt
      · exact Nat.lt_trans hlt (hx y hy)
    case isFalse hge =>
      refine List.pairwise_cons.mpr
        ⟨fun y hy => ?_, ih hxs fun y hy => hn y (List.mem_cons_of_mem _ hy)⟩
      rcases List.mem_cons.mp ((insertEntry_perm e xs).mem_iff.mp hy) with rfl | hy
      · omega
      · exact hx y hy

/-- What a run of recomputeEntry over a list leaves as it was. -/
@[simp] theorem recomputeEntry_foldl_frame (l : List RingEntry) (k : List RingEntry) (f : FeedNo)
    (p : Nat) (o : Tick) (n : Nat) (s : State) :
    (l.foldl (recomputeEntry f p o n) (s, k)).1.wall = s.wall ∧
    (l.foldl (recomputeEntry f p o n) (s, k)).1.resetLine = s.resetLine ∧
    (l.foldl (recomputeEntry f p o n) (s, k)).1.contribCarrier = s.contribCarrier ∧
    (l.foldl (recomputeEntry f p o n) (s, k)).1.storCarrier = s.storCarrier ∧
    (l.foldl (recomputeEntry f p o n) (s, k)).1.holdLine = s.holdLine ∧
    (l.foldl (recomputeEntry f p o n) (s, k)).1.port = s.port ∧
    (l.foldl (recomputeEntry f p o n) (s, k)).1.handedUnits = s.handedUnits ∧
    (l.foldl (recomputeEntry f p o n) (s, k)).1.handedFrames = s.handedFrames ∧
    (l.foldl (recomputeEntry f p o n) (s, k)).1.contexts = s.contexts ∧
    (l.foldl (recomputeEntry f p o n) (s, k)).1.smc.level = s.smc.level ∧
    (l.foldl (recomputeEntry f p o n) (s, k)).1.smc.raises = s.smc.raises ∧
    (l.foldl (recomputeEntry f p o n) (s, k)).1.rings = s.rings ∧
    (l.foldl (recomputeEntry f p o n) (s, k)).1.placed = s.placed ∧
    (l.foldl (recomputeEntry f p o n) (s, k)).1.clips = s.clips ∧
    (l.foldl (recomputeEntry f p o n) (s, k)).1.bu = s.bu ∧
    (l.foldl (recomputeEntry f p o n) (s, k)).1.sw = s.sw ∧
    (l.foldl (recomputeEntry f p o n) (s, k)).1.fw = s.fw ∧
    (l.foldl (recomputeEntry f p o n) (s, k)).1.mu.origins = s.mu.origins ∧
    (l.foldl (recomputeEntry f p o n) (s, k)).1.mu.address = s.mu.address ∧
    (l.foldl (recomputeEntry f p o n) (s, k)).1.mu.refusedOrigin = s.mu.refusedOrigin ∧
    (l.foldl (recomputeEntry f p o n) (s, k)).1.mu.malformedRequests = s.mu.malformedRequests ∧
    (l.foldl (recomputeEntry f p o n) (s, k)).1.mu.requestsDropped = s.mu.requestsDropped ∧
    (l.foldl (recomputeEntry f p o n) (s, k)).1.mu.lastSent = s.mu.lastSent ∧
    (l.foldl (recomputeEntry f p o n) (s, k)).1.mu.sent = s.mu.sent ∧
    (l.foldl (recomputeEntry f p o n) (s, k)).1.nextSerial = s.nextSerial ∧
    (l.foldl (recomputeEntry f p o n) (s, k)).1.pending = s.pending ∧
    (∀ z : ClipNo, (l.foldl (recomputeEntry f p o n) (s, k)).1.clip z = s.clip z) ∧
    (∀ z : FeedNo, (l.foldl (recomputeEntry f p o n) (s, k)).1.contextsOf z = s.contextsOf z) ∧
    (∀ z : FeedNo, (l.foldl (recomputeEntry f p o n) (s, k)).1.ring z = s.ring z) ∧
    (∀ z : FeedNo, (l.foldl (recomputeEntry f p o n) (s, k)).1.watchEntry z = s.watchEntry z) := by
  induction l generalizing k s with
  | nil => simp
  | cons x xs ih =>
    simp only [List.foldl_cons]
    have h : (recomputeEntry f p o n (s, k) x).1 = s ∨
        (recomputeEntry f p o n (s, k) x).1 = discardLate f x.frame s ∨
        (recomputeEntry f p o n (s, k) x).1 = discardDuplicate f x.frame s := by
      unfold recomputeEntry; (repeat' split) <;> simp
    rw [← Prod.mk.eta (p := recomputeEntry f p o n (s, k) x)]
    obtain h | h | h := h <;> rw [h] <;> simp [ih]

/-- With no join to meet, what a run of recomputeEntry leaves of the requests and the waiting response. -/
@[simp] theorem recomputeEntry_foldl_unmet (l : List RingEntry) (k : List RingEntry) (f : FeedNo)
    (p : Nat) (o : Tick) (n : Nat) (s : State) (hj : s.mu.joined = none) :
    (l.foldl (recomputeEntry f p o n) (s, k)).1.mu.joined = none ∧
    (l.foldl (recomputeEntry f p o n) (s, k)).1.mu.requests = s.mu.requests ∧
    (l.foldl (recomputeEntry f p o n) (s, k)).1.mu.waiting = s.mu.waiting ∧
    (l.foldl (recomputeEntry f p o n) (s, k)).1.mu.resetDue = s.mu.resetDue := by
  induction l generalizing k s with
  | nil => simp (maxDischargeDepth := 40) [hj]
  | cons x xs ih =>
    simp only [List.foldl_cons]
    have h : (recomputeEntry f p o n (s, k) x).1 = s ∨
        (recomputeEntry f p o n (s, k) x).1 = discardLate f x.frame s ∨
        (recomputeEntry f p o n (s, k) x).1 = discardDuplicate f x.frame s := by
      unfold recomputeEntry; (repeat' split) <;> simp (maxDischargeDepth := 40) [hj]
    rw [← Prod.mk.eta (p := recomputeEntry f p o n (s, k) x)]
    obtain h | h | h := h <;> rw [h] <;> simp (maxDischargeDepth := 40) [ih, hj]

/-- What recomputeRing leaves as it was. -/
@[simp] theorem recomputeRing_frame (f : FeedNo) (s : State) :
    (recomputeRing f s).wall = s.wall ∧ (recomputeRing f s).resetLine = s.resetLine ∧
    (recomputeRing f s).contribCarrier = s.contribCarrier ∧
    (recomputeRing f s).storCarrier = s.storCarrier ∧ (recomputeRing f s).holdLine = s.holdLine ∧
    (recomputeRing f s).port = s.port ∧ (recomputeRing f s).handedUnits = s.handedUnits ∧
    (recomputeRing f s).handedFrames = s.handedFrames ∧ (recomputeRing f s).contexts = s.contexts ∧
    (recomputeRing f s).smc.level = s.smc.level ∧ (recomputeRing f s).smc.raises = s.smc.raises ∧
    (recomputeRing f s).placed = s.placed ∧ (recomputeRing f s).clips = s.clips ∧
    (recomputeRing f s).bu = s.bu ∧ (recomputeRing f s).sw = s.sw ∧ (recomputeRing f s).fw = s.fw ∧
    (recomputeRing f s).mu.origins = s.mu.origins ∧ (recomputeRing f s).mu.address = s.mu.address ∧
    (recomputeRing f s).mu.refusedOrigin = s.mu.refusedOrigin ∧
    (recomputeRing f s).mu.malformedRequests = s.mu.malformedRequests ∧
    (recomputeRing f s).mu.requestsDropped = s.mu.requestsDropped ∧
    (recomputeRing f s).mu.lastSent = s.mu.lastSent ∧ (recomputeRing f s).mu.sent = s.mu.sent ∧
    (recomputeRing f s).nextSerial = s.nextSerial ∧ (recomputeRing f s).pending = s.pending ∧
    (∀ z : ClipNo, (recomputeRing f s).clip z = s.clip z) ∧
    (∀ z : FeedNo, (recomputeRing f s).contextsOf z = s.contextsOf z) ∧
    (∀ z : FeedNo, (recomputeRing f s).watchEntry z = s.watchEntry z) := by
  unfold recomputeRing
  (repeat' split) <;> simp

/-- With no join to meet, what recomputeRing leaves of the requests and the waiting response. -/
@[simp] theorem recomputeRing_unmet (f : FeedNo) (s : State) (hj : s.mu.joined = none) :
    (recomputeRing f s).mu.joined = none ∧ (recomputeRing f s).mu.requests = s.mu.requests ∧
    (recomputeRing f s).mu.waiting = s.mu.waiting ∧
    (recomputeRing f s).mu.resetDue = s.mu.resetDue := by
  unfold recomputeRing
  (repeat' split) <;> simp (maxDischargeDepth := 40) [hj]

/-- What succeedClip leaves as it was. -/
@[simp] theorem succeedClip_frame (f : FeedNo) (c : ClipNo) (w : EndReason) (o : Tick × Tick)
    (s : State) :
    (succeedClip f c w o s).wall = s.wall ∧ (succeedClip f c w o s).resetLine = s.resetLine ∧
    (succeedClip f c w o s).contribCarrier = s.contribCarrier ∧
    (succeedClip f c w o s).storCarrier = s.storCarrier ∧
    (succeedClip f c w o s).holdLine = s.holdLine ∧ (succeedClip f c w o s).port = s.port ∧
    (succeedClip f c w o s).smc.level = s.smc.level ∧
    (succeedClip f c w o s).smc.raises = s.smc.raises ∧
    (succeedClip f c w o s).bu.durA = s.bu.durA ∧ (succeedClip f c w o s).bu.durB = s.bu.durB ∧
    (succeedClip f c w o s).bu.serial = s.bu.serial ∧
    (succeedClip f c w o s).sw.settings = s.sw.settings ∧
    (succeedClip f c w o s).sw.retired = s.sw.retired ∧
    (succeedClip f c w o s).sw.paused = s.sw.paused ∧
    (succeedClip f c w o s).sw.stray = s.sw.stray ∧
    (succeedClip f c w o s).sw.readies = s.sw.readies ∧
    (succeedClip f c w o s).sw.foreign = s.sw.foreign ∧
    (succeedClip f c w o s).sw.lastMessages = s.sw.lastMessages ∧
    (succeedClip f c w o s).fw = s.fw ∧ (succeedClip f c w o s).mu.origins = s.mu.origins ∧
    (succeedClip f c w o s).mu.address = s.mu.address ∧
    (succeedClip f c w o s).mu.refusedOrigin = s.mu.refusedOrigin ∧
    (succeedClip f c w o s).mu.malformedRequests = s.mu.malformedRequests ∧
    (succeedClip f c w o s).mu.requestsDropped = s.mu.requestsDropped ∧
    (succeedClip f c w o s).mu.lastSent = s.mu.lastSent ∧
    (succeedClip f c w o s).mu.sent = s.mu.sent ∧ (succeedClip f c w o s).pending = s.pending ∧
    (∀ z : FeedNo, (succeedClip f c w o s).watchEntry z = s.watchEntry z) := by
  unfold succeedClip; dsimp only; (repeat' split) <;> simp

/-- With no join to meet, what succeedClip leaves of the requests and the waiting response. -/
@[simp] theorem succeedClip_unmet (f : FeedNo) (c : ClipNo) (w : EndReason) (o : Tick × Tick)
    (s : State) (hj : s.mu.joined = none) :
    (succeedClip f c w o s).mu.joined = none ∧ (succeedClip f c w o s).mu.requests = s.mu.requests ∧
    (succeedClip f c w o s).mu.waiting = s.mu.waiting ∧
    (succeedClip f c w o s).mu.resetDue = s.mu.resetDue := by
  unfold succeedClip; dsimp only; (repeat' split) <;> simp (maxDischargeDepth := 40) [hj]

/-- What limitTest leaves as it was. -/
@[simp] theorem limitTest_frame (f : FeedNo) (c : ClipNo) (s : State) :
    (limitTest f c s).wall = s.wall ∧ (limitTest f c s).resetLine = s.resetLine ∧
    (limitTest f c s).contribCarrier = s.contribCarrier ∧
    (limitTest f c s).storCarrier = s.storCarrier ∧ (limitTest f c s).holdLine = s.holdLine ∧
    (limitTest f c s).port = s.port ∧ (limitTest f c s).smc.level = s.smc.level ∧
    (limitTest f c s).smc.raises = s.smc.raises ∧ (limitTest f c s).bu.durA = s.bu.durA ∧
    (limitTest f c s).bu.durB = s.bu.durB ∧ (limitTest f c s).bu.serial = s.bu.serial ∧
    (limitTest f c s).sw.settings = s.sw.settings ∧ (limitTest f c s).sw.retired = s.sw.retired ∧
    (limitTest f c s).sw.paused = s.sw.paused ∧ (limitTest f c s).sw.stray = s.sw.stray ∧
    (limitTest f c s).sw.readies = s.sw.readies ∧ (limitTest f c s).sw.foreign = s.sw.foreign ∧
    (limitTest f c s).sw.lastMessages = s.sw.lastMessages ∧ (limitTest f c s).fw = s.fw ∧
    (limitTest f c s).mu.origins = s.mu.origins ∧ (limitTest f c s).mu.address = s.mu.address ∧
    (limitTest f c s).mu.refusedOrigin = s.mu.refusedOrigin ∧
    (limitTest f c s).mu.malformedRequests = s.mu.malformedRequests ∧
    (limitTest f c s).mu.requestsDropped = s.mu.requestsDropped ∧
    (limitTest f c s).mu.lastSent = s.mu.lastSent ∧ (limitTest f c s).mu.sent = s.mu.sent ∧
    (limitTest f c s).pending = s.pending ∧
    (∀ z : FeedNo, (limitTest f c s).watchEntry z = s.watchEntry z) := by
  unfold limitTest; dsimp only; (repeat' split) <;> simp

/-- With no join to meet, what limitTest leaves of the requests and the waiting response. -/
@[simp] theorem limitTest_unmet (f : FeedNo) (c : ClipNo) (s : State) (hj : s.mu.joined = none) :
    (limitTest f c s).mu.joined = none ∧ (limitTest f c s).mu.requests = s.mu.requests ∧
    (limitTest f c s).mu.waiting = s.mu.waiting ∧ (limitTest f c s).mu.resetDue = s.mu.resetDue := by
  unfold limitTest; dsimp only; (repeat' split) <;> simp (maxDischargeDepth := 40) [hj]

/-- What placeFill leaves as it was. -/
@[simp] theorem placeFill_frame (f : FeedNo) (c : ClipNo) (k : FillKind) (h : Bool) (s : State) :
    (placeFill f c k h s).wall = s.wall ∧ (placeFill f c k h s).resetLine = s.resetLine ∧
    (placeFill f c k h s).contribCarrier = s.contribCarrier ∧
    (placeFill f c k h s).storCarrier = s.storCarrier ∧
    (placeFill f c k h s).holdLine = s.holdLine ∧ (placeFill f c k h s).port = s.port ∧
    (placeFill f c k h s).smc.level = s.smc.level ∧
    (placeFill f c k h s).smc.raises = s.smc.raises ∧ (placeFill f c k h s).bu.durA = s.bu.durA ∧
    (placeFill f c k h s).bu.durB = s.bu.durB ∧ (placeFill f c k h s).bu.serial = s.bu.serial ∧
    (placeFill f c k h s).sw.settings = s.sw.settings ∧
    (placeFill f c k h s).sw.retired = s.sw.retired ∧
    (placeFill f c k h s).sw.paused = s.sw.paused ∧ (placeFill f c k h s).sw.stray = s.sw.stray ∧
    (placeFill f c k h s).sw.readies = s.sw.readies ∧
    (placeFill f c k h s).sw.foreign = s.sw.foreign ∧
    (placeFill f c k h s).sw.lastMessages = s.sw.lastMessages ∧ (placeFill f c k h s).fw = s.fw ∧
    (placeFill f c k h s).mu.origins = s.mu.origins ∧
    (placeFill f c k h s).mu.address = s.mu.address ∧
    (placeFill f c k h s).mu.refusedOrigin = s.mu.refusedOrigin ∧
    (placeFill f c k h s).mu.malformedRequests = s.mu.malformedRequests ∧
    (placeFill f c k h s).mu.requestsDropped = s.mu.requestsDropped ∧
    (placeFill f c k h s).mu.lastSent = s.mu.lastSent ∧ (placeFill f c k h s).mu.sent = s.mu.sent ∧
    (placeFill f c k h s).pending = s.pending ∧
    (∀ z : FeedNo, (placeFill f c k h s).watchEntry z = s.watchEntry z) := by
  unfold placeFill; dsimp only; (repeat' split) <;> simp

/-- With no join to meet, what placeFill leaves of the requests and the waiting response. -/
@[simp] theorem placeFill_unmet (f : FeedNo) (c : ClipNo) (k : FillKind) (h : Bool) (s : State)
    (hj : s.mu.joined = none) :
    (placeFill f c k h s).mu.joined = none ∧ (placeFill f c k h s).mu.requests = s.mu.requests ∧
    (placeFill f c k h s).mu.waiting = s.mu.waiting ∧
    (placeFill f c k h s).mu.resetDue = s.mu.resetDue := by
  unfold placeFill; dsimp only; (repeat' split) <;> simp (maxDischargeDepth := 40) [hj]

/-- What placeMedia leaves as it was. -/
@[simp] theorem placeMedia_frame (f : FeedNo) (c : ClipNo) (e : RingEntry) (s : State) :
    (placeMedia f c e s).wall = s.wall ∧ (placeMedia f c e s).resetLine = s.resetLine ∧
    (placeMedia f c e s).contribCarrier = s.contribCarrier ∧
    (placeMedia f c e s).storCarrier = s.storCarrier ∧ (placeMedia f c e s).holdLine = s.holdLine ∧
    (placeMedia f c e s).port = s.port ∧ (placeMedia f c e s).smc.level = s.smc.level ∧
    (placeMedia f c e s).bu.durA = s.bu.durA ∧ (placeMedia f c e s).bu.durB = s.bu.durB ∧
    (placeMedia f c e s).bu.serial = s.bu.serial ∧
    (placeMedia f c e s).sw.settings = s.sw.settings ∧
    (placeMedia f c e s).sw.retired = s.sw.retired ∧ (placeMedia f c e s).sw.paused = s.sw.paused ∧
    (placeMedia f c e s).sw.stray = s.sw.stray ∧ (placeMedia f c e s).sw.readies = s.sw.readies ∧
    (placeMedia f c e s).sw.foreign = s.sw.foreign ∧
    (placeMedia f c e s).sw.lastMessages = s.sw.lastMessages ∧ (placeMedia f c e s).fw = s.fw ∧
    (placeMedia f c e s).mu.origins = s.mu.origins ∧
    (placeMedia f c e s).mu.address = s.mu.address ∧
    (placeMedia f c e s).mu.refusedOrigin = s.mu.refusedOrigin ∧
    (placeMedia f c e s).mu.malformedRequests = s.mu.malformedRequests ∧
    (placeMedia f c e s).mu.requestsDropped = s.mu.requestsDropped ∧
    (placeMedia f c e s).mu.lastSent = s.mu.lastSent ∧ (placeMedia f c e s).mu.sent = s.mu.sent ∧
    (placeMedia f c e s).pending = s.pending ∧
    (∀ z : FeedNo, (placeMedia f c e s).watchEntry z = s.watchEntry z) := by
  unfold placeMedia; dsimp only; (repeat' split) <;> simp (maxDischargeDepth := 40) [State.feed, State.clip, State.contextsOf, State.ring,
    State.holding, State.flagsOf, State.watchEntry]

/-- With no join to meet, what placeMedia leaves of the requests and the waiting response. -/
@[simp] theorem placeMedia_unmet (f : FeedNo) (c : ClipNo) (e : RingEntry) (s : State)
    (hj : s.mu.joined = none) :
    (placeMedia f c e s).mu.joined = none ∧ (placeMedia f c e s).mu.requests = s.mu.requests ∧
    (placeMedia f c e s).mu.waiting = s.mu.waiting ∧
    (placeMedia f c e s).mu.resetDue = s.mu.resetDue := by
  unfold placeMedia; dsimp only; (repeat' split) <;> simp (maxDischargeDepth := 40) [hj]

/-- What fillRun leaves as it was. -/
@[simp] theorem fillRun_frame (f : FeedNo) (n : Nat) (k : FillKind) (s : State) :
    (fillRun f n k s).wall = s.wall ∧ (fillRun f n k s).resetLine = s.resetLine ∧
    (fillRun f n k s).contribCarrier = s.contribCarrier ∧
    (fillRun f n k s).storCarrier = s.storCarrier ∧ (fillRun f n k s).holdLine = s.holdLine ∧
    (fillRun f n k s).port = s.port ∧ (fillRun f n k s).smc.level = s.smc.level ∧
    (fillRun f n k s).smc.raises = s.smc.raises ∧ (fillRun f n k s).bu.durA = s.bu.durA ∧
    (fillRun f n k s).bu.durB = s.bu.durB ∧ (fillRun f n k s).bu.serial = s.bu.serial ∧
    (fillRun f n k s).sw.settings = s.sw.settings ∧ (fillRun f n k s).sw.retired = s.sw.retired ∧
    (fillRun f n k s).sw.paused = s.sw.paused ∧ (fillRun f n k s).sw.stray = s.sw.stray ∧
    (fillRun f n k s).sw.readies = s.sw.readies ∧ (fillRun f n k s).sw.foreign = s.sw.foreign ∧
    (fillRun f n k s).sw.lastMessages = s.sw.lastMessages ∧ (fillRun f n k s).fw = s.fw ∧
    (fillRun f n k s).mu.origins = s.mu.origins ∧ (fillRun f n k s).mu.address = s.mu.address ∧
    (fillRun f n k s).mu.refusedOrigin = s.mu.refusedOrigin ∧
    (fillRun f n k s).mu.malformedRequests = s.mu.malformedRequests ∧
    (fillRun f n k s).mu.requestsDropped = s.mu.requestsDropped ∧
    (fillRun f n k s).mu.lastSent = s.mu.lastSent ∧ (fillRun f n k s).mu.sent = s.mu.sent ∧
    (fillRun f n k s).pending = s.pending ∧
    (∀ z : FeedNo, (fillRun f n k s).watchEntry z = s.watchEntry z) := by
  induction n generalizing k s with
  | zero => simp [fillRun]
  | succ n ih => unfold fillRun; dsimp only; (repeat' split) <;> simp [ih]

/-- With no join to meet, what fillRun leaves of the requests and the waiting response. -/
@[simp] theorem fillRun_unmet (f : FeedNo) (n : Nat) (k : FillKind) (s : State)
    (hj : s.mu.joined = none) :
    (fillRun f n k s).mu.joined = none ∧ (fillRun f n k s).mu.requests = s.mu.requests ∧
    (fillRun f n k s).mu.waiting = s.mu.waiting ∧ (fillRun f n k s).mu.resetDue = s.mu.resetDue := by
  induction n generalizing k s with
  | zero => simp (maxDischargeDepth := 40) [fillRun, hj]
  | succ n ih => unfold fillRun; dsimp only; (repeat' split) <;> simp (maxDischargeDepth := 40) [ih, hj]

/-- What endHold leaves as it was. -/
@[simp] theorem endHold_frame (f : FeedNo) (s : State) :
    (endHold f s).wall = s.wall ∧ (endHold f s).resetLine = s.resetLine ∧
    (endHold f s).contribCarrier = s.contribCarrier ∧ (endHold f s).storCarrier = s.storCarrier ∧
    (endHold f s).holdLine = s.holdLine ∧ (endHold f s).port = s.port ∧
    (endHold f s).smc.level = s.smc.level ∧ (endHold f s).smc.raises = s.smc.raises ∧
    (endHold f s).bu.durA = s.bu.durA ∧ (endHold f s).bu.durB = s.bu.durB ∧
    (endHold f s).bu.serial = s.bu.serial ∧ (endHold f s).sw.settings = s.sw.settings ∧
    (endHold f s).sw.retired = s.sw.retired ∧ (endHold f s).sw.paused = s.sw.paused ∧
    (endHold f s).sw.stray = s.sw.stray ∧ (endHold f s).sw.readies = s.sw.readies ∧
    (endHold f s).sw.foreign = s.sw.foreign ∧ (endHold f s).sw.lastMessages = s.sw.lastMessages ∧
    (endHold f s).fw = s.fw ∧ (endHold f s).mu.origins = s.mu.origins ∧
    (endHold f s).mu.address = s.mu.address ∧ (endHold f s).mu.refusedOrigin = s.mu.refusedOrigin ∧
    (endHold f s).mu.malformedRequests = s.mu.malformedRequests ∧
    (endHold f s).mu.requestsDropped = s.mu.requestsDropped ∧
    (endHold f s).mu.lastSent = s.mu.lastSent ∧ (endHold f s).mu.sent = s.mu.sent ∧
    (endHold f s).pending = s.pending ∧
    (∀ z : FeedNo, (endHold f s).watchEntry z = s.watchEntry z) := by
  unfold endHold; dsimp only; (repeat' split) <;> simp

/-- With no join to meet, what endHold leaves of the requests and the waiting response. -/
@[simp] theorem endHold_unmet (f : FeedNo) (s : State) (hj : s.mu.joined = none) :
    (endHold f s).mu.joined = none ∧ (endHold f s).mu.requests = s.mu.requests ∧
    (endHold f s).mu.waiting = s.mu.waiting ∧ (endHold f s).mu.resetDue = s.mu.resetDue := by
  unfold endHold; dsimp only; (repeat' split) <;> simp (maxDischargeDepth := 40) [hj]

/-- What placeHead leaves as it was. -/
@[simp] theorem placeHead_frame (f : FeedNo) (c : ClipNo) (e : RingEntry) (s : State) :
    (placeHead f c e s).wall = s.wall ∧ (placeHead f c e s).resetLine = s.resetLine ∧
    (placeHead f c e s).contribCarrier = s.contribCarrier ∧
    (placeHead f c e s).storCarrier = s.storCarrier ∧ (placeHead f c e s).holdLine = s.holdLine ∧
    (placeHead f c e s).port = s.port ∧ (placeHead f c e s).smc.level = s.smc.level ∧
    (placeHead f c e s).bu.durA = s.bu.durA ∧ (placeHead f c e s).bu.durB = s.bu.durB ∧
    (placeHead f c e s).bu.serial = s.bu.serial ∧ (placeHead f c e s).sw.settings = s.sw.settings ∧
    (placeHead f c e s).sw.retired = s.sw.retired ∧ (placeHead f c e s).sw.paused = s.sw.paused ∧
    (placeHead f c e s).sw.stray = s.sw.stray ∧ (placeHead f c e s).sw.readies = s.sw.readies ∧
    (placeHead f c e s).sw.foreign = s.sw.foreign ∧
    (placeHead f c e s).sw.lastMessages = s.sw.lastMessages ∧ (placeHead f c e s).fw = s.fw ∧
    (placeHead f c e s).mu.origins = s.mu.origins ∧ (placeHead f c e s).mu.address = s.mu.address ∧
    (placeHead f c e s).mu.refusedOrigin = s.mu.refusedOrigin ∧
    (placeHead f c e s).mu.malformedRequests = s.mu.malformedRequests ∧
    (placeHead f c e s).mu.requestsDropped = s.mu.requestsDropped ∧
    (placeHead f c e s).mu.lastSent = s.mu.lastSent ∧ (placeHead f c e s).mu.sent = s.mu.sent ∧
    (placeHead f c e s).pending = s.pending ∧
    (∀ z : FeedNo, (placeHead f c e s).watchEntry z = s.watchEntry z) := by
  unfold placeHead; (repeat' split) <;> simp

/-- With no join to meet, what placeHead leaves of the requests and the waiting response. -/
@[simp] theorem placeHead_unmet (f : FeedNo) (c : ClipNo) (e : RingEntry) (s : State)
    (hj : s.mu.joined = none) :
    (placeHead f c e s).mu.joined = none ∧ (placeHead f c e s).mu.requests = s.mu.requests ∧
    (placeHead f c e s).mu.waiting = s.mu.waiting ∧
    (placeHead f c e s).mu.resetDue = s.mu.resetDue := by
  unfold placeHead; (repeat' split) <;> simp (maxDischargeDepth := 40) [hj]

/-- What endOldHold leaves as it was. -/
@[simp] theorem endOldHold_frame (f : FeedNo) (s : State) :
    (endOldHold f s).wall = s.wall ∧ (endOldHold f s).resetLine = s.resetLine ∧
    (endOldHold f s).contribCarrier = s.contribCarrier ∧
    (endOldHold f s).storCarrier = s.storCarrier ∧ (endOldHold f s).holdLine = s.holdLine ∧
    (endOldHold f s).port = s.port ∧ (endOldHold f s).smc.level = s.smc.level ∧
    (endOldHold f s).smc.raises = s.smc.raises ∧ (endOldHold f s).bu.durA = s.bu.durA ∧
    (endOldHold f s).bu.durB = s.bu.durB ∧ (endOldHold f s).bu.serial = s.bu.serial ∧
    (endOldHold f s).sw.settings = s.sw.settings ∧ (endOldHold f s).sw.retired = s.sw.retired ∧
    (endOldHold f s).sw.paused = s.sw.paused ∧ (endOldHold f s).sw.stray = s.sw.stray ∧
    (endOldHold f s).sw.readies = s.sw.readies ∧ (endOldHold f s).sw.foreign = s.sw.foreign ∧
    (endOldHold f s).sw.lastMessages = s.sw.lastMessages ∧ (endOldHold f s).fw = s.fw ∧
    (endOldHold f s).mu.origins = s.mu.origins ∧ (endOldHold f s).mu.address = s.mu.address ∧
    (endOldHold f s).mu.refusedOrigin = s.mu.refusedOrigin ∧
    (endOldHold f s).mu.malformedRequests = s.mu.malformedRequests ∧
    (endOldHold f s).mu.requestsDropped = s.mu.requestsDropped ∧
    (endOldHold f s).mu.lastSent = s.mu.lastSent ∧ (endOldHold f s).mu.sent = s.mu.sent ∧
    (endOldHold f s).pending = s.pending ∧
    (∀ z : FeedNo, (endOldHold f s).watchEntry z = s.watchEntry z) := by
  unfold endOldHold; (repeat' split) <;> simp

/-- With no join to meet, what endOldHold leaves of the requests and the waiting response. -/
@[simp] theorem endOldHold_unmet (f : FeedNo) (s : State) (hj : s.mu.joined = none) :
    (endOldHold f s).mu.joined = none ∧ (endOldHold f s).mu.requests = s.mu.requests ∧
    (endOldHold f s).mu.waiting = s.mu.waiting ∧ (endOldHold f s).mu.resetDue = s.mu.resetDue := by
  unfold endOldHold; (repeat' split) <;> simp (maxDischargeDepth := 40) [hj]

/-- What advanceRun leaves as it was. -/
@[simp] theorem advanceRun_frame (f : FeedNo) (n : Nat) (s : State) :
    (advanceRun f n s).wall = s.wall ∧ (advanceRun f n s).resetLine = s.resetLine ∧
    (advanceRun f n s).contribCarrier = s.contribCarrier ∧
    (advanceRun f n s).storCarrier = s.storCarrier ∧ (advanceRun f n s).holdLine = s.holdLine ∧
    (advanceRun f n s).port = s.port ∧ (advanceRun f n s).smc.level = s.smc.level ∧
    (advanceRun f n s).bu.durA = s.bu.durA ∧ (advanceRun f n s).bu.durB = s.bu.durB ∧
    (advanceRun f n s).bu.serial = s.bu.serial ∧ (advanceRun f n s).sw.settings = s.sw.settings ∧
    (advanceRun f n s).sw.retired = s.sw.retired ∧ (advanceRun f n s).sw.paused = s.sw.paused ∧
    (advanceRun f n s).sw.stray = s.sw.stray ∧ (advanceRun f n s).sw.readies = s.sw.readies ∧
    (advanceRun f n s).sw.foreign = s.sw.foreign ∧
    (advanceRun f n s).sw.lastMessages = s.sw.lastMessages ∧ (advanceRun f n s).fw = s.fw ∧
    (advanceRun f n s).mu.origins = s.mu.origins ∧ (advanceRun f n s).mu.address = s.mu.address ∧
    (advanceRun f n s).mu.refusedOrigin = s.mu.refusedOrigin ∧
    (advanceRun f n s).mu.malformedRequests = s.mu.malformedRequests ∧
    (advanceRun f n s).mu.requestsDropped = s.mu.requestsDropped ∧
    (advanceRun f n s).mu.lastSent = s.mu.lastSent ∧ (advanceRun f n s).mu.sent = s.mu.sent ∧
    (advanceRun f n s).pending = s.pending ∧
    (∀ z : FeedNo, (advanceRun f n s).watchEntry z = s.watchEntry z) := by
  induction n generalizing s with
  | zero => simp [advanceRun]
  | succ n ih => unfold advanceRun; dsimp only; split <;> simp [ih]

/-- With no join to meet, what advanceRun leaves of the requests and the waiting response. -/
@[simp] theorem advanceRun_unmet (f : FeedNo) (n : Nat) (s : State) (hj : s.mu.joined = none) :
    (advanceRun f n s).mu.joined = none ∧ (advanceRun f n s).mu.requests = s.mu.requests ∧
    (advanceRun f n s).mu.waiting = s.mu.waiting ∧
    (advanceRun f n s).mu.resetDue = s.mu.resetDue := by
  induction n generalizing s with
  | zero => simp (maxDischargeDepth := 40) [advanceRun, hj]
  | succ n ih => unfold advanceRun; dsimp only; split <;> simp (maxDischargeDepth := 40) [ih, hj]

/-- What advance leaves as it was. -/
@[simp] theorem advance_frame (f : FeedNo) (s : State) :
    (advance f s).wall = s.wall ∧ (advance f s).resetLine = s.resetLine ∧
    (advance f s).contribCarrier = s.contribCarrier ∧ (advance f s).storCarrier = s.storCarrier ∧
    (advance f s).holdLine = s.holdLine ∧ (advance f s).port = s.port ∧
    (advance f s).smc.level = s.smc.level ∧ (advance f s).bu.durA = s.bu.durA ∧
    (advance f s).bu.durB = s.bu.durB ∧ (advance f s).bu.serial = s.bu.serial ∧
    (advance f s).sw.settings = s.sw.settings ∧ (advance f s).sw.retired = s.sw.retired ∧
    (advance f s).sw.paused = s.sw.paused ∧ (advance f s).sw.stray = s.sw.stray ∧
    (advance f s).sw.readies = s.sw.readies ∧ (advance f s).sw.foreign = s.sw.foreign ∧
    (advance f s).sw.lastMessages = s.sw.lastMessages ∧ (advance f s).fw = s.fw ∧
    (advance f s).mu.origins = s.mu.origins ∧ (advance f s).mu.address = s.mu.address ∧
    (advance f s).mu.refusedOrigin = s.mu.refusedOrigin ∧
    (advance f s).mu.malformedRequests = s.mu.malformedRequests ∧
    (advance f s).mu.requestsDropped = s.mu.requestsDropped ∧
    (advance f s).mu.lastSent = s.mu.lastSent ∧ (advance f s).mu.sent = s.mu.sent ∧
    (advance f s).pending = s.pending ∧
    (∀ z : FeedNo, (advance f s).watchEntry z = s.watchEntry z) := by
  simp [advance]

/-- With no join to meet, what advance leaves of the requests and the waiting response. -/
@[simp] theorem advance_unmet (f : FeedNo) (s : State) (hj : s.mu.joined = none) :
    (advance f s).mu.joined = none ∧ (advance f s).mu.requests = s.mu.requests ∧
    (advance f s).mu.waiting = s.mu.waiting ∧ (advance f s).mu.resetDue = s.mu.resetDue := by
  simp (maxDischargeDepth := 40) [advance, hj]

/-- What offerRun leaves as it was. -/
@[simp] theorem offerRun_frame (n : Nat) (s : State) :
    (offerRun n s).wall = s.wall ∧ (offerRun n s).resetLine = s.resetLine ∧
    (offerRun n s).contribCarrier = s.contribCarrier ∧ (offerRun n s).storCarrier = s.storCarrier ∧
    (offerRun n s).holdLine = s.holdLine ∧ (offerRun n s).port = s.port ∧
    (offerRun n s).smc.level = s.smc.level ∧ (offerRun n s).bu.durA = s.bu.durA ∧
    (offerRun n s).bu.durB = s.bu.durB ∧ (offerRun n s).bu.serial = s.bu.serial ∧
    (offerRun n s).sw.settings = s.sw.settings ∧ (offerRun n s).sw.retired = s.sw.retired ∧
    (offerRun n s).sw.paused = s.sw.paused ∧ (offerRun n s).sw.stray = s.sw.stray ∧
    (offerRun n s).sw.readies = s.sw.readies ∧ (offerRun n s).sw.foreign = s.sw.foreign ∧
    (offerRun n s).sw.lastMessages = s.sw.lastMessages ∧ (offerRun n s).fw = s.fw ∧
    (offerRun n s).mu.origins = s.mu.origins ∧ (offerRun n s).mu.address = s.mu.address ∧
    (offerRun n s).mu.refusedOrigin = s.mu.refusedOrigin ∧
    (offerRun n s).mu.malformedRequests = s.mu.malformedRequests ∧
    (offerRun n s).mu.requestsDropped = s.mu.requestsDropped ∧
    (offerRun n s).mu.lastSent = s.mu.lastSent ∧ (offerRun n s).mu.sent = s.mu.sent ∧
    (offerRun n s).pending = s.pending ∧
    (∀ z : FeedNo, (offerRun n s).watchEntry z = s.watchEntry z) := by
  induction n generalizing s with
  | zero => simp [offerRun]
  | succ n ih => unfold offerRun; (repeat' split) <;> simp [ih]

/-- With no join to meet, what offerRun leaves of the requests and the waiting response. -/
@[simp] theorem offerRun_unmet (n : Nat) (s : State) (hj : s.mu.joined = none) :
    (offerRun n s).mu.joined = none ∧ (offerRun n s).mu.requests = s.mu.requests ∧
    (offerRun n s).mu.waiting = s.mu.waiting ∧ (offerRun n s).mu.resetDue = s.mu.resetDue := by
  induction n generalizing s with
  | zero => simp (maxDischargeDepth := 40) [offerRun, hj]
  | succ n ih => unfold offerRun; (repeat' split) <;> simp (maxDischargeDepth := 40) [ih, hj]

/-- What offerShare leaves as it was. -/
@[simp] theorem offerShare_frame (s : State) :
    (offerShare s).wall = s.wall ∧ (offerShare s).resetLine = s.resetLine ∧
    (offerShare s).contribCarrier = s.contribCarrier ∧ (offerShare s).storCarrier = s.storCarrier ∧
    (offerShare s).holdLine = s.holdLine ∧ (offerShare s).port = s.port ∧
    (offerShare s).smc.level = s.smc.level ∧ (offerShare s).bu.durA = s.bu.durA ∧
    (offerShare s).bu.durB = s.bu.durB ∧ (offerShare s).bu.serial = s.bu.serial ∧
    (offerShare s).sw.settings = s.sw.settings ∧ (offerShare s).sw.retired = s.sw.retired ∧
    (offerShare s).sw.paused = s.sw.paused ∧ (offerShare s).sw.stray = s.sw.stray ∧
    (offerShare s).sw.readies = s.sw.readies ∧ (offerShare s).sw.foreign = s.sw.foreign ∧
    (offerShare s).sw.lastMessages = s.sw.lastMessages ∧ (offerShare s).fw = s.fw ∧
    (offerShare s).mu.origins = s.mu.origins ∧ (offerShare s).mu.address = s.mu.address ∧
    (offerShare s).mu.refusedOrigin = s.mu.refusedOrigin ∧
    (offerShare s).mu.malformedRequests = s.mu.malformedRequests ∧
    (offerShare s).mu.requestsDropped = s.mu.requestsDropped ∧
    (offerShare s).mu.lastSent = s.mu.lastSent ∧ (offerShare s).mu.sent = s.mu.sent ∧
    (offerShare s).pending = s.pending ∧
    (∀ z : FeedNo, (offerShare s).watchEntry z = s.watchEntry z) := by
  simp [offerShare]

/-- With no join to meet, what offerShare leaves of the requests and the waiting response. -/
@[simp] theorem offerShare_unmet (s : State) (hj : s.mu.joined = none) :
    (offerShare s).mu.joined = none ∧ (offerShare s).mu.requests = s.mu.requests ∧
    (offerShare s).mu.waiting = s.mu.waiting ∧ (offerShare s).mu.resetDue = s.mu.resetDue := by
  simp (maxDischargeDepth := 40) [offerShare, hj]

/-- What takeOrigin leaves as it was. -/
@[simp] theorem takeOrigin_frame (f : FeedNo) (c : ClipNo) (x : Frame) (s : State) :
    (takeOrigin f c x s).wall = s.wall ∧ (takeOrigin f c x s).resetLine = s.resetLine ∧
    (takeOrigin f c x s).contribCarrier = s.contribCarrier ∧
    (takeOrigin f c x s).storCarrier = s.storCarrier ∧ (takeOrigin f c x s).holdLine = s.holdLine ∧
    (takeOrigin f c x s).port = s.port ∧ (takeOrigin f c x s).smc.level = s.smc.level ∧
    (takeOrigin f c x s).bu.durA = s.bu.durA ∧ (takeOrigin f c x s).bu.durB = s.bu.durB ∧
    (takeOrigin f c x s).bu.serial = s.bu.serial ∧
    (takeOrigin f c x s).sw.settings = s.sw.settings ∧
    (takeOrigin f c x s).sw.retired = s.sw.retired ∧ (takeOrigin f c x s).sw.paused = s.sw.paused ∧
    (takeOrigin f c x s).sw.stray = s.sw.stray ∧ (takeOrigin f c x s).sw.readies = s.sw.readies ∧
    (takeOrigin f c x s).sw.foreign = s.sw.foreign ∧
    (takeOrigin f c x s).sw.lastMessages = s.sw.lastMessages ∧ (takeOrigin f c x s).fw = s.fw ∧
    (takeOrigin f c x s).mu.origins = s.mu.origins ∧
    (takeOrigin f c x s).mu.address = s.mu.address ∧
    (takeOrigin f c x s).mu.refusedOrigin = s.mu.refusedOrigin ∧
    (takeOrigin f c x s).mu.malformedRequests = s.mu.malformedRequests ∧
    (takeOrigin f c x s).mu.requestsDropped = s.mu.requestsDropped ∧
    (takeOrigin f c x s).mu.lastSent = s.mu.lastSent ∧ (takeOrigin f c x s).mu.sent = s.mu.sent ∧
    (takeOrigin f c x s).pending = s.pending ∧
    (∀ z : FeedNo, (takeOrigin f c x s).watchEntry z = s.watchEntry z) := by
  simp [takeOrigin]

/-- With no join to meet, what takeOrigin leaves of the requests and the waiting response. -/
@[simp] theorem takeOrigin_unmet (f : FeedNo) (c : ClipNo) (x : Frame) (s : State)
    (hj : s.mu.joined = none) :
    (takeOrigin f c x s).mu.joined = none ∧ (takeOrigin f c x s).mu.requests = s.mu.requests ∧
    (takeOrigin f c x s).mu.waiting = s.mu.waiting ∧
    (takeOrigin f c x s).mu.resetDue = s.mu.resetDue := by
  simp (maxDischargeDepth := 40) [takeOrigin, hj]

/-- What admitAt leaves as it was. -/
@[simp] theorem admitAt_frame (f : FeedNo) (x : Frame) (n : Nat) (b : Bool) (s : State) :
    (admitAt f x n b s).wall = s.wall ∧ (admitAt f x n b s).resetLine = s.resetLine ∧
    (admitAt f x n b s).contribCarrier = s.contribCarrier ∧
    (admitAt f x n b s).storCarrier = s.storCarrier ∧ (admitAt f x n b s).holdLine = s.holdLine ∧
    (admitAt f x n b s).port = s.port ∧ (admitAt f x n b s).smc.level = s.smc.level ∧
    (admitAt f x n b s).bu.durA = s.bu.durA ∧ (admitAt f x n b s).bu.durB = s.bu.durB ∧
    (admitAt f x n b s).bu.serial = s.bu.serial ∧ (admitAt f x n b s).sw.settings = s.sw.settings ∧
    (admitAt f x n b s).sw.retired = s.sw.retired ∧ (admitAt f x n b s).sw.paused = s.sw.paused ∧
    (admitAt f x n b s).sw.stray = s.sw.stray ∧ (admitAt f x n b s).sw.readies = s.sw.readies ∧
    (admitAt f x n b s).sw.foreign = s.sw.foreign ∧
    (admitAt f x n b s).sw.lastMessages = s.sw.lastMessages ∧ (admitAt f x n b s).fw = s.fw ∧
    (admitAt f x n b s).mu.origins = s.mu.origins ∧ (admitAt f x n b s).mu.address = s.mu.address ∧
    (admitAt f x n b s).mu.refusedOrigin = s.mu.refusedOrigin ∧
    (admitAt f x n b s).mu.malformedRequests = s.mu.malformedRequests ∧
    (admitAt f x n b s).mu.requestsDropped = s.mu.requestsDropped ∧
    (admitAt f x n b s).mu.lastSent = s.mu.lastSent ∧ (admitAt f x n b s).mu.sent = s.mu.sent ∧
    (admitAt f x n b s).pending = s.pending ∧
    (∀ z : FeedNo, (admitAt f x n b s).watchEntry z = s.watchEntry z) := by
  unfold admitAt; dsimp only; split <;> simp

/-- With no join to meet, what admitAt leaves of the requests and the waiting response. -/
@[simp] theorem admitAt_unmet (f : FeedNo) (x : Frame) (n : Nat) (b : Bool) (s : State)
    (hj : s.mu.joined = none) :
    (admitAt f x n b s).mu.joined = none ∧ (admitAt f x n b s).mu.requests = s.mu.requests ∧
    (admitAt f x n b s).mu.waiting = s.mu.waiting ∧
    (admitAt f x n b s).mu.resetDue = s.mu.resetDue := by
  unfold admitAt; dsimp only; split <;> simp (maxDischargeDepth := 40) [hj]

/-- What cutForArrival leaves as it was. -/
@[simp] theorem cutForArrival_frame (f : FeedNo) (x : Frame) (n : Nat) (b : Bool) (s : State) :
    (cutForArrival f x n b s).wall = s.wall ∧ (cutForArrival f x n b s).resetLine = s.resetLine ∧
    (cutForArrival f x n b s).contribCarrier = s.contribCarrier ∧
    (cutForArrival f x n b s).storCarrier = s.storCarrier ∧
    (cutForArrival f x n b s).holdLine = s.holdLine ∧ (cutForArrival f x n b s).port = s.port ∧
    (cutForArrival f x n b s).smc.level = s.smc.level ∧
    (cutForArrival f x n b s).bu.durA = s.bu.durA ∧ (cutForArrival f x n b s).bu.durB = s.bu.durB ∧
    (cutForArrival f x n b s).bu.serial = s.bu.serial ∧
    (cutForArrival f x n b s).sw.settings = s.sw.settings ∧
    (cutForArrival f x n b s).sw.retired = s.sw.retired ∧
    (cutForArrival f x n b s).sw.paused = s.sw.paused ∧
    (cutForArrival f x n b s).sw.stray = s.sw.stray ∧
    (cutForArrival f x n b s).sw.readies = s.sw.readies ∧
    (cutForArrival f x n b s).sw.foreign = s.sw.foreign ∧
    (cutForArrival f x n b s).sw.lastMessages = s.sw.lastMessages ∧
    (cutForArrival f x n b s).fw = s.fw ∧ (cutForArrival f x n b s).mu.origins = s.mu.origins ∧
    (cutForArrival f x n b s).mu.address = s.mu.address ∧
    (cutForArrival f x n b s).mu.refusedOrigin = s.mu.refusedOrigin ∧
    (cutForArrival f x n b s).mu.malformedRequests = s.mu.malformedRequests ∧
    (cutForArrival f x n b s).mu.requestsDropped = s.mu.requestsDropped ∧
    (cutForArrival f x n b s).mu.lastSent = s.mu.lastSent ∧
    (cutForArrival f x n b s).mu.sent = s.mu.sent ∧ (cutForArrival f x n b s).pending = s.pending ∧
    (∀ z : FeedNo, (cutForArrival f x n b s).watchEntry z = s.watchEntry z) := by
  unfold cutForArrival; dsimp only; (repeat' split) <;> simp

/-- With no join to meet, what cutForArrival leaves of the requests and the waiting response. -/
@[simp] theorem cutForArrival_unmet (f : FeedNo) (x : Frame) (n : Nat) (b : Bool) (s : State)
    (hj : s.mu.joined = none) :
    (cutForArrival f x n b s).mu.joined = none ∧
    (cutForArrival f x n b s).mu.requests = s.mu.requests ∧
    (cutForArrival f x n b s).mu.waiting = s.mu.waiting ∧
    (cutForArrival f x n b s).mu.resetDue = s.mu.resetDue := by
  unfold cutForArrival; dsimp only; (repeat' split) <;> simp (maxDischargeDepth := 40) [hj]

/-- What judgeFrame leaves as it was. -/
@[simp] theorem judgeFrame_frame (f : FeedNo) (x : Frame) (n : Nat) (s : State) :
    (judgeFrame f x n s).wall = s.wall ∧ (judgeFrame f x n s).resetLine = s.resetLine ∧
    (judgeFrame f x n s).contribCarrier = s.contribCarrier ∧
    (judgeFrame f x n s).storCarrier = s.storCarrier ∧ (judgeFrame f x n s).holdLine = s.holdLine ∧
    (judgeFrame f x n s).port = s.port ∧ (judgeFrame f x n s).smc.level = s.smc.level ∧
    (judgeFrame f x n s).bu.durA = s.bu.durA ∧ (judgeFrame f x n s).bu.durB = s.bu.durB ∧
    (judgeFrame f x n s).bu.serial = s.bu.serial ∧
    (judgeFrame f x n s).sw.settings = s.sw.settings ∧
    (judgeFrame f x n s).sw.retired = s.sw.retired ∧ (judgeFrame f x n s).sw.paused = s.sw.paused ∧
    (judgeFrame f x n s).sw.stray = s.sw.stray ∧ (judgeFrame f x n s).sw.readies = s.sw.readies ∧
    (judgeFrame f x n s).sw.foreign = s.sw.foreign ∧
    (judgeFrame f x n s).sw.lastMessages = s.sw.lastMessages ∧ (judgeFrame f x n s).fw = s.fw ∧
    (judgeFrame f x n s).mu.origins = s.mu.origins ∧
    (judgeFrame f x n s).mu.address = s.mu.address ∧
    (judgeFrame f x n s).mu.refusedOrigin = s.mu.refusedOrigin ∧
    (judgeFrame f x n s).mu.malformedRequests = s.mu.malformedRequests ∧
    (judgeFrame f x n s).mu.requestsDropped = s.mu.requestsDropped ∧
    (judgeFrame f x n s).mu.lastSent = s.mu.lastSent ∧ (judgeFrame f x n s).mu.sent = s.mu.sent ∧
    (judgeFrame f x n s).pending = s.pending ∧
    (∀ z : FeedNo, (judgeFrame f x n s).watchEntry z = s.watchEntry z) := by
  induction n generalizing s with
  | zero => simp [judgeFrame]
  | succ n ih => unfold judgeFrame; dsimp only; (repeat' split) <;> simp [ih]

/-- With no join to meet, what judgeFrame leaves of the requests and the waiting response. -/
@[simp] theorem judgeFrame_unmet (f : FeedNo) (x : Frame) (n : Nat) (s : State)
    (hj : s.mu.joined = none) :
    (judgeFrame f x n s).mu.joined = none ∧ (judgeFrame f x n s).mu.requests = s.mu.requests ∧
    (judgeFrame f x n s).mu.waiting = s.mu.waiting ∧
    (judgeFrame f x n s).mu.resetDue = s.mu.resetDue := by
  induction n generalizing s with
  | zero => simp (maxDischargeDepth := 40) [judgeFrame, hj]
  | succ n ih => unfold judgeFrame; dsimp only; (repeat' split) <;> simp (maxDischargeDepth := 40) [ih, hj]

/-- What a run of discardLate over a list leaves as it was. -/
@[simp] theorem discardLate_foldl_frame (l : List RingEntry) (f : FeedNo) (s : State) :
    (l.foldl (fun s e => discardLate f e.frame s) s).wall = s.wall ∧
    (l.foldl (fun s e => discardLate f e.frame s) s).resetLine = s.resetLine ∧
    (l.foldl (fun s e => discardLate f e.frame s) s).contribCarrier = s.contribCarrier ∧
    (l.foldl (fun s e => discardLate f e.frame s) s).storCarrier = s.storCarrier ∧
    (l.foldl (fun s e => discardLate f e.frame s) s).holdLine = s.holdLine ∧
    (l.foldl (fun s e => discardLate f e.frame s) s).port = s.port ∧
    (l.foldl (fun s e => discardLate f e.frame s) s).handedUnits = s.handedUnits ∧
    (l.foldl (fun s e => discardLate f e.frame s) s).handedFrames = s.handedFrames ∧
    (l.foldl (fun s e => discardLate f e.frame s) s).contexts = s.contexts ∧
    (l.foldl (fun s e => discardLate f e.frame s) s).smc.level = s.smc.level ∧
    (l.foldl (fun s e => discardLate f e.frame s) s).smc.raises = s.smc.raises ∧
    (l.foldl (fun s e => discardLate f e.frame s) s).rings = s.rings ∧
    (l.foldl (fun s e => discardLate f e.frame s) s).placed = s.placed ∧
    (l.foldl (fun s e => discardLate f e.frame s) s).clips = s.clips ∧
    (l.foldl (fun s e => discardLate f e.frame s) s).bu = s.bu ∧
    (l.foldl (fun s e => discardLate f e.frame s) s).sw = s.sw ∧
    (l.foldl (fun s e => discardLate f e.frame s) s).fw = s.fw ∧
    (l.foldl (fun s e => discardLate f e.frame s) s).mu.origins = s.mu.origins ∧
    (l.foldl (fun s e => discardLate f e.frame s) s).mu.address = s.mu.address ∧
    (l.foldl (fun s e => discardLate f e.frame s) s).mu.refusedOrigin = s.mu.refusedOrigin ∧
    (l.foldl (fun s e => discardLate f e.frame s) s).mu.malformedRequests = s.mu.malformedRequests ∧
    (l.foldl (fun s e => discardLate f e.frame s) s).mu.requestsDropped = s.mu.requestsDropped ∧
    (l.foldl (fun s e => discardLate f e.frame s) s).mu.lastSent = s.mu.lastSent ∧
    (l.foldl (fun s e => discardLate f e.frame s) s).mu.sent = s.mu.sent ∧
    (l.foldl (fun s e => discardLate f e.frame s) s).nextSerial = s.nextSerial ∧
    (l.foldl (fun s e => discardLate f e.frame s) s).pending = s.pending ∧
    (∀ z : ClipNo, (l.foldl (fun s e => discardLate f e.frame s) s).clip z = s.clip z) ∧
    (∀ z : FeedNo, (l.foldl (fun s e => discardLate f e.frame s) s).contextsOf z = s.contextsOf z) ∧
    (∀ z : FeedNo, (l.foldl (fun s e => discardLate f e.frame s) s).ring z = s.ring z) ∧
    (∀ z : FeedNo, (l.foldl (fun s e => discardLate f e.frame s) s).watchEntry z = s.watchEntry z) := by
  induction l generalizing s with
  | nil => simp
  | cons x xs ih => simp [ih]

/-- With no join to meet, what a run of discardLate leaves of the requests and the waiting response. -/
@[simp] theorem discardLate_foldl_unmet (l : List RingEntry) (f : FeedNo) (s : State)
    (hj : s.mu.joined = none) :
    (l.foldl (fun s e => discardLate f e.frame s) s).mu.joined = none ∧
    (l.foldl (fun s e => discardLate f e.frame s) s).mu.requests = s.mu.requests ∧
    (l.foldl (fun s e => discardLate f e.frame s) s).mu.waiting = s.mu.waiting ∧
    (l.foldl (fun s e => discardLate f e.frame s) s).mu.resetDue = s.mu.resetDue := by
  induction l generalizing s with
  | nil => simp (maxDischargeDepth := 40) [hj]
  | cons x xs ih => simp (maxDischargeDepth := 40) [ih, hj]

/-- What dropPassed leaves as it was. -/
@[simp] theorem dropPassed_frame (f : FeedNo) (s : State) :
    (dropPassed f s).wall = s.wall ∧ (dropPassed f s).resetLine = s.resetLine ∧
    (dropPassed f s).contribCarrier = s.contribCarrier ∧
    (dropPassed f s).storCarrier = s.storCarrier ∧ (dropPassed f s).holdLine = s.holdLine ∧
    (dropPassed f s).port = s.port ∧ (dropPassed f s).handedUnits = s.handedUnits ∧
    (dropPassed f s).handedFrames = s.handedFrames ∧ (dropPassed f s).contexts = s.contexts ∧
    (dropPassed f s).smc.level = s.smc.level ∧ (dropPassed f s).smc.raises = s.smc.raises ∧
    (dropPassed f s).placed = s.placed ∧ (dropPassed f s).clips = s.clips ∧
    (dropPassed f s).bu = s.bu ∧ (dropPassed f s).sw = s.sw ∧ (dropPassed f s).fw = s.fw ∧
    (dropPassed f s).mu.origins = s.mu.origins ∧ (dropPassed f s).mu.address = s.mu.address ∧
    (dropPassed f s).mu.refusedOrigin = s.mu.refusedOrigin ∧
    (dropPassed f s).mu.malformedRequests = s.mu.malformedRequests ∧
    (dropPassed f s).mu.requestsDropped = s.mu.requestsDropped ∧
    (dropPassed f s).mu.lastSent = s.mu.lastSent ∧ (dropPassed f s).mu.sent = s.mu.sent ∧
    (dropPassed f s).nextSerial = s.nextSerial ∧ (dropPassed f s).pending = s.pending ∧
    (∀ z : ClipNo, (dropPassed f s).clip z = s.clip z) ∧
    (∀ z : FeedNo, (dropPassed f s).contextsOf z = s.contextsOf z) ∧
    (∀ z : FeedNo, (dropPassed f s).watchEntry z = s.watchEntry z) := by
  unfold dropPassed
  (repeat' split) <;> simp

/-- With no join to meet, what dropPassed leaves of the requests and the waiting response. -/
@[simp] theorem dropPassed_unmet (f : FeedNo) (s : State) (hj : s.mu.joined = none) :
    (dropPassed f s).mu.joined = none ∧ (dropPassed f s).mu.requests = s.mu.requests ∧
    (dropPassed f s).mu.waiting = s.mu.waiting ∧ (dropPassed f s).mu.resetDue = s.mu.resetDue := by
  unfold dropPassed
  (repeat' split) <;> simp (maxDischargeDepth := 40) [hj]

/-- What pace leaves as it was. -/
@[simp] theorem pace_frame (f : FeedNo) (s : State) :
    (pace f s).wall = s.wall ∧ (pace f s).resetLine = s.resetLine ∧
    (pace f s).contribCarrier = s.contribCarrier ∧ (pace f s).storCarrier = s.storCarrier ∧
    (pace f s).holdLine = s.holdLine ∧ (pace f s).port = s.port ∧
    (pace f s).smc.level = s.smc.level ∧ (pace f s).bu.durA = s.bu.durA ∧
    (pace f s).bu.durB = s.bu.durB ∧ (pace f s).bu.serial = s.bu.serial ∧
    (pace f s).sw.settings = s.sw.settings ∧ (pace f s).sw.retired = s.sw.retired ∧
    (pace f s).sw.paused = s.sw.paused ∧ (pace f s).sw.stray = s.sw.stray ∧
    (pace f s).sw.readies = s.sw.readies ∧ (pace f s).sw.foreign = s.sw.foreign ∧
    (pace f s).sw.lastMessages = s.sw.lastMessages ∧ (pace f s).fw = s.fw ∧
    (pace f s).mu.origins = s.mu.origins ∧ (pace f s).mu.address = s.mu.address ∧
    (pace f s).mu.refusedOrigin = s.mu.refusedOrigin ∧
    (pace f s).mu.malformedRequests = s.mu.malformedRequests ∧
    (pace f s).mu.requestsDropped = s.mu.requestsDropped ∧ (pace f s).mu.lastSent = s.mu.lastSent ∧
    (pace f s).mu.sent = s.mu.sent ∧ (pace f s).pending = s.pending ∧
    (∀ z : FeedNo, (pace f s).watchEntry z = s.watchEntry z) := by
  unfold pace; (repeat' split) <;> simp

/-- With no join to meet, what pace leaves of the requests and the waiting response. -/
@[simp] theorem pace_unmet (f : FeedNo) (s : State) (hj : s.mu.joined = none) :
    (pace f s).mu.joined = none ∧ (pace f s).mu.requests = s.mu.requests ∧
    (pace f s).mu.waiting = s.mu.waiting ∧ (pace f s).mu.resetDue = s.mu.resetDue := by
  unfold pace; (repeat' split) <;> simp (maxDischargeDepth := 40) [hj]

end Sys2Proof.Machine
end

