-- ==== Sys2Proof/Laws/Assembly.lean ====
section
/-! SUPPORT. The frames of Frame Assembly's operations (Machine/Assembly.lean). -/

namespace Sys2Proof.Machine

set_option Elab.async false

/-- What abandonIncomplete leaves as it was. -/
@[simp] theorem abandonIncomplete_frame (f : FeedNo) (x : Context) (s : State) :
    (abandonIncomplete f x s).wall = s.wall ∧ (abandonIncomplete f x s).resetLine = s.resetLine ∧
    (abandonIncomplete f x s).contribCarrier = s.contribCarrier ∧
    (abandonIncomplete f x s).storCarrier = s.storCarrier ∧
    (abandonIncomplete f x s).holdLine = s.holdLine ∧ (abandonIncomplete f x s).port = s.port ∧
    (abandonIncomplete f x s).handedUnits = s.handedUnits ∧
    (abandonIncomplete f x s).handedFrames = s.handedFrames ∧
    (abandonIncomplete f x s).contexts = s.contexts ∧
    (abandonIncomplete f x s).smc.level = s.smc.level ∧
    (abandonIncomplete f x s).smc.raises = s.smc.raises ∧
    (abandonIncomplete f x s).rings = s.rings ∧ (abandonIncomplete f x s).placed = s.placed ∧
    (abandonIncomplete f x s).clips = s.clips ∧ (abandonIncomplete f x s).bu = s.bu ∧
    (abandonIncomplete f x s).sw = s.sw ∧ (abandonIncomplete f x s).fw = s.fw ∧
    (abandonIncomplete f x s).mu.origins = s.mu.origins ∧
    (abandonIncomplete f x s).mu.address = s.mu.address ∧
    (abandonIncomplete f x s).mu.feedFlags = s.mu.feedFlags ∧
    (abandonIncomplete f x s).mu.refusedOrigin = s.mu.refusedOrigin ∧
    (abandonIncomplete f x s).mu.malformedRequests = s.mu.malformedRequests ∧
    (abandonIncomplete f x s).mu.requestsDropped = s.mu.requestsDropped ∧
    (abandonIncomplete f x s).mu.lastSent = s.mu.lastSent ∧
    (abandonIncomplete f x s).mu.sent = s.mu.sent ∧
    (abandonIncomplete f x s).nextSerial = s.nextSerial ∧
    (abandonIncomplete f x s).pending = s.pending ∧
    (∀ z : ClipNo, (abandonIncomplete f x s).clip z = s.clip z) ∧
    (∀ z : FeedNo, (abandonIncomplete f x s).contextsOf z = s.contextsOf z) ∧
    (∀ z : FeedNo, (abandonIncomplete f x s).ring z = s.ring z) ∧
    (∀ z : FeedNo, (abandonIncomplete f x s).flagsOf z = s.flagsOf z) ∧
    (∀ z : FeedNo, (abandonIncomplete f x s).watchEntry z = s.watchEntry z) := by
  unfold abandonIncomplete; (repeat' split) <;> simp

/-- With no join to meet, what abandonIncomplete leaves of the requests and the waiting response. -/
@[simp] theorem abandonIncomplete_unmet (f : FeedNo) (x : Context) (s : State)
    (hj : s.mu.joined = none) :
    (abandonIncomplete f x s).mu.joined = none ∧
    (abandonIncomplete f x s).mu.requests = s.mu.requests ∧
    (abandonIncomplete f x s).mu.waiting = s.mu.waiting ∧
    (abandonIncomplete f x s).mu.resetDue = s.mu.resetDue := by
  unfold abandonIncomplete; (repeat' split) <;> simp (maxDischargeDepth := 40) [hj]

/-- What evict leaves as it was. -/
@[simp] theorem evict_frame (f : FeedNo) (s : State) :
    (evict f s).wall = s.wall ∧ (evict f s).resetLine = s.resetLine ∧
    (evict f s).contribCarrier = s.contribCarrier ∧ (evict f s).storCarrier = s.storCarrier ∧
    (evict f s).holdLine = s.holdLine ∧ (evict f s).port = s.port ∧
    (evict f s).handedUnits = s.handedUnits ∧ (evict f s).handedFrames = s.handedFrames ∧
    (evict f s).smc.level = s.smc.level ∧ (evict f s).smc.raises = s.smc.raises ∧
    (evict f s).rings = s.rings ∧ (evict f s).placed = s.placed ∧ (evict f s).clips = s.clips ∧
    (evict f s).bu = s.bu ∧ (evict f s).sw = s.sw ∧ (evict f s).fw = s.fw ∧
    (evict f s).mu.origins = s.mu.origins ∧ (evict f s).mu.address = s.mu.address ∧
    (evict f s).mu.feedFlags = s.mu.feedFlags ∧ (evict f s).mu.refusedOrigin = s.mu.refusedOrigin ∧
    (evict f s).mu.malformedRequests = s.mu.malformedRequests ∧
    (evict f s).mu.requestsDropped = s.mu.requestsDropped ∧
    (evict f s).mu.lastSent = s.mu.lastSent ∧ (evict f s).mu.sent = s.mu.sent ∧
    (evict f s).nextSerial = s.nextSerial ∧ (evict f s).pending = s.pending ∧
    (∀ z : ClipNo, (evict f s).clip z = s.clip z) ∧ (∀ z : FeedNo, (evict f s).ring z = s.ring z) ∧
    (∀ z : FeedNo, (evict f s).flagsOf z = s.flagsOf z) ∧
    (∀ z : FeedNo, (evict f s).watchEntry z = s.watchEntry z) := by
  unfold evict; (repeat' split) <;> simp

/-- With no join to meet, what evict leaves of the requests and the waiting response. -/
@[simp] theorem evict_unmet (f : FeedNo) (s : State) (hj : s.mu.joined = none) :
    (evict f s).mu.joined = none ∧ (evict f s).mu.requests = s.mu.requests ∧
    (evict f s).mu.waiting = s.mu.waiting ∧ (evict f s).mu.resetDue = s.mu.resetDue := by
  unfold evict; (repeat' split) <;> simp (maxDischargeDepth := 40) [hj]

/-- What findOrOpen leaves as it was. -/
@[simp] theorem findOrOpen_frame (f : FeedNo) (x : HandedUnit) (s : State) :
    (findOrOpen f x s).wall = s.wall ∧ (findOrOpen f x s).resetLine = s.resetLine ∧
    (findOrOpen f x s).contribCarrier = s.contribCarrier ∧
    (findOrOpen f x s).storCarrier = s.storCarrier ∧ (findOrOpen f x s).holdLine = s.holdLine ∧
    (findOrOpen f x s).port = s.port ∧ (findOrOpen f x s).handedUnits = s.handedUnits ∧
    (findOrOpen f x s).handedFrames = s.handedFrames ∧ (findOrOpen f x s).smc.level = s.smc.level ∧
    (findOrOpen f x s).smc.raises = s.smc.raises ∧ (findOrOpen f x s).rings = s.rings ∧
    (findOrOpen f x s).placed = s.placed ∧ (findOrOpen f x s).clips = s.clips ∧
    (findOrOpen f x s).bu = s.bu ∧ (findOrOpen f x s).sw = s.sw ∧ (findOrOpen f x s).fw = s.fw ∧
    (findOrOpen f x s).mu.origins = s.mu.origins ∧ (findOrOpen f x s).mu.address = s.mu.address ∧
    (findOrOpen f x s).mu.feedFlags = s.mu.feedFlags ∧
    (findOrOpen f x s).mu.refusedOrigin = s.mu.refusedOrigin ∧
    (findOrOpen f x s).mu.malformedRequests = s.mu.malformedRequests ∧
    (findOrOpen f x s).mu.requestsDropped = s.mu.requestsDropped ∧
    (findOrOpen f x s).mu.lastSent = s.mu.lastSent ∧ (findOrOpen f x s).mu.sent = s.mu.sent ∧
    (findOrOpen f x s).nextSerial = s.nextSerial ∧ (findOrOpen f x s).pending = s.pending ∧
    (∀ z : ClipNo, (findOrOpen f x s).clip z = s.clip z) ∧
    (∀ z : FeedNo, (findOrOpen f x s).ring z = s.ring z) ∧
    (∀ z : FeedNo, (findOrOpen f x s).flagsOf z = s.flagsOf z) ∧
    (∀ z : FeedNo, (findOrOpen f x s).watchEntry z = s.watchEntry z) := by
  unfold findOrOpen; dsimp only; split <;> simp

/-- With no join to meet, what findOrOpen leaves of the requests and the waiting response. -/
@[simp] theorem findOrOpen_unmet (f : FeedNo) (x : HandedUnit) (s : State)
    (hj : s.mu.joined = none) :
    (findOrOpen f x s).mu.joined = none ∧ (findOrOpen f x s).mu.requests = s.mu.requests ∧
    (findOrOpen f x s).mu.waiting = s.mu.waiting ∧
    (findOrOpen f x s).mu.resetDue = s.mu.resetDue := by
  unfold findOrOpen; dsimp only; split <;> simp (maxDischargeDepth := 40) [hj]

/-- What putContext leaves as it was. -/
@[simp] theorem putContext_frame (f : FeedNo) (x : Context) (s : State) :
    (putContext f x s).wall = s.wall ∧ (putContext f x s).resetLine = s.resetLine ∧
    (putContext f x s).contribCarrier = s.contribCarrier ∧
    (putContext f x s).storCarrier = s.storCarrier ∧ (putContext f x s).holdLine = s.holdLine ∧
    (putContext f x s).feeds = s.feeds ∧ (putContext f x s).port = s.port ∧
    (putContext f x s).handedUnits = s.handedUnits ∧
    (putContext f x s).handedFrames = s.handedFrames ∧ (putContext f x s).smc = s.smc ∧
    (putContext f x s).rings = s.rings ∧ (putContext f x s).placed = s.placed ∧
    (putContext f x s).clips = s.clips ∧ (putContext f x s).bu = s.bu ∧
    (putContext f x s).sw = s.sw ∧ (putContext f x s).fw = s.fw ∧ (putContext f x s).mu = s.mu ∧
    (putContext f x s).nextSerial = s.nextSerial ∧ (putContext f x s).pending = s.pending ∧
    (∀ z : FeedNo, (putContext f x s).feed z = s.feed z) ∧
    (∀ z : ClipNo, (putContext f x s).clip z = s.clip z) ∧
    (∀ z : FeedNo, (putContext f x s).ring z = s.ring z) ∧
    (∀ z : FeedNo, (putContext f x s).holding z = s.holding z) ∧
    (∀ z : FeedNo, (putContext f x s).flagsOf z = s.flagsOf z) ∧
    (∀ z : FeedNo, (putContext f x s).watchEntry z = s.watchEntry z) := by
  unfold putContext; (repeat' split) <;> simp

/-- What dropContext leaves as it was. -/
@[simp] theorem dropContext_frame (f : FeedNo) (t : Tick) (s : State) :
    (dropContext f t s).wall = s.wall ∧ (dropContext f t s).resetLine = s.resetLine ∧
    (dropContext f t s).contribCarrier = s.contribCarrier ∧
    (dropContext f t s).storCarrier = s.storCarrier ∧ (dropContext f t s).holdLine = s.holdLine ∧
    (dropContext f t s).feeds = s.feeds ∧ (dropContext f t s).port = s.port ∧
    (dropContext f t s).handedUnits = s.handedUnits ∧
    (dropContext f t s).handedFrames = s.handedFrames ∧ (dropContext f t s).smc = s.smc ∧
    (dropContext f t s).rings = s.rings ∧ (dropContext f t s).placed = s.placed ∧
    (dropContext f t s).clips = s.clips ∧ (dropContext f t s).bu = s.bu ∧
    (dropContext f t s).sw = s.sw ∧ (dropContext f t s).fw = s.fw ∧ (dropContext f t s).mu = s.mu ∧
    (dropContext f t s).nextSerial = s.nextSerial ∧ (dropContext f t s).pending = s.pending ∧
    (∀ z : FeedNo, (dropContext f t s).feed z = s.feed z) ∧
    (∀ z : ClipNo, (dropContext f t s).clip z = s.clip z) ∧
    (∀ z : FeedNo, (dropContext f t s).ring z = s.ring z) ∧
    (∀ z : FeedNo, (dropContext f t s).holding z = s.holding z) ∧
    (∀ z : FeedNo, (dropContext f t s).flagsOf z = s.flagsOf z) ∧
    (∀ z : FeedNo, (dropContext f t s).watchEntry z = s.watchEntry z) := by
  unfold dropContext; (repeat' split) <;> simp

/-- What countMalformed leaves as it was. -/
@[simp] theorem countMalformed_frame (f : FeedNo) (s : State) :
    (countMalformed f s).wall = s.wall ∧ (countMalformed f s).resetLine = s.resetLine ∧
    (countMalformed f s).contribCarrier = s.contribCarrier ∧
    (countMalformed f s).storCarrier = s.storCarrier ∧ (countMalformed f s).holdLine = s.holdLine ∧
    (countMalformed f s).port = s.port ∧ (countMalformed f s).handedUnits = s.handedUnits ∧
    (countMalformed f s).handedFrames = s.handedFrames ∧
    (countMalformed f s).contexts = s.contexts ∧ (countMalformed f s).smc = s.smc ∧
    (countMalformed f s).rings = s.rings ∧ (countMalformed f s).placed = s.placed ∧
    (countMalformed f s).clips = s.clips ∧ (countMalformed f s).bu = s.bu ∧
    (countMalformed f s).sw = s.sw ∧ (countMalformed f s).fw = s.fw ∧
    (countMalformed f s).mu = s.mu ∧ (countMalformed f s).nextSerial = s.nextSerial ∧
    (countMalformed f s).pending = s.pending ∧
    (∀ z : ClipNo, (countMalformed f s).clip z = s.clip z) ∧
    (∀ z : FeedNo, (countMalformed f s).contextsOf z = s.contextsOf z) ∧
    (∀ z : FeedNo, (countMalformed f s).ring z = s.ring z) ∧
    (∀ z : FeedNo, (countMalformed f s).holding z = s.holding z) ∧
    (∀ z : FeedNo, (countMalformed f s).flagsOf z = s.flagsOf z) ∧
    (∀ z : FeedNo, (countMalformed f s).watchEntry z = s.watchEntry z) := by
  unfold countMalformed; (repeat' split) <;> simp

/-- What abandonMalformed leaves as it was. -/
@[simp] theorem abandonMalformed_frame (f : FeedNo) (x : Context) (s : State) :
    (abandonMalformed f x s).wall = s.wall ∧ (abandonMalformed f x s).resetLine = s.resetLine ∧
    (abandonMalformed f x s).contribCarrier = s.contribCarrier ∧
    (abandonMalformed f x s).storCarrier = s.storCarrier ∧
    (abandonMalformed f x s).holdLine = s.holdLine ∧ (abandonMalformed f x s).port = s.port ∧
    (abandonMalformed f x s).handedUnits = s.handedUnits ∧
    (abandonMalformed f x s).handedFrames = s.handedFrames ∧
    (abandonMalformed f x s).smc.level = s.smc.level ∧
    (abandonMalformed f x s).smc.raises = s.smc.raises ∧ (abandonMalformed f x s).rings = s.rings ∧
    (abandonMalformed f x s).placed = s.placed ∧ (abandonMalformed f x s).clips = s.clips ∧
    (abandonMalformed f x s).bu = s.bu ∧ (abandonMalformed f x s).sw = s.sw ∧
    (abandonMalformed f x s).fw = s.fw ∧ (abandonMalformed f x s).mu.origins = s.mu.origins ∧
    (abandonMalformed f x s).mu.address = s.mu.address ∧
    (abandonMalformed f x s).mu.feedFlags = s.mu.feedFlags ∧
    (abandonMalformed f x s).mu.refusedOrigin = s.mu.refusedOrigin ∧
    (abandonMalformed f x s).mu.malformedRequests = s.mu.malformedRequests ∧
    (abandonMalformed f x s).mu.requestsDropped = s.mu.requestsDropped ∧
    (abandonMalformed f x s).mu.lastSent = s.mu.lastSent ∧
    (abandonMalformed f x s).mu.sent = s.mu.sent ∧
    (abandonMalformed f x s).nextSerial = s.nextSerial ∧
    (abandonMalformed f x s).pending = s.pending ∧
    (∀ z : ClipNo, (abandonMalformed f x s).clip z = s.clip z) ∧
    (∀ z : FeedNo, (abandonMalformed f x s).ring z = s.ring z) ∧
    (∀ z : FeedNo, (abandonMalformed f x s).flagsOf z = s.flagsOf z) ∧
    (∀ z : FeedNo, (abandonMalformed f x s).watchEntry z = s.watchEntry z) := by
  unfold abandonMalformed; (repeat' split) <;> simp

/-- With no join to meet, what abandonMalformed leaves of the requests and the waiting response. -/
@[simp] theorem abandonMalformed_unmet (f : FeedNo) (x : Context) (s : State)
    (hj : s.mu.joined = none) :
    (abandonMalformed f x s).mu.joined = none ∧
    (abandonMalformed f x s).mu.requests = s.mu.requests ∧
    (abandonMalformed f x s).mu.waiting = s.mu.waiting ∧
    (abandonMalformed f x s).mu.resetDue = s.mu.resetDue := by
  unfold abandonMalformed; (repeat' split) <;> simp (maxDischargeDepth := 40) [hj]

/-- What grantHeld leaves as it was. -/
@[simp] theorem grantHeld_frame (f : FeedNo) (n : Nat) (s : State) :
    (grantHeld f n s).wall = s.wall ∧ (grantHeld f n s).resetLine = s.resetLine ∧
    (grantHeld f n s).contribCarrier = s.contribCarrier ∧
    (grantHeld f n s).storCarrier = s.storCarrier ∧ (grantHeld f n s).holdLine = s.holdLine ∧
    (grantHeld f n s).feeds = s.feeds ∧ (grantHeld f n s).port = s.port ∧
    (grantHeld f n s).handedUnits = s.handedUnits ∧
    (grantHeld f n s).handedFrames = s.handedFrames ∧ (grantHeld f n s).contexts = s.contexts ∧
    (grantHeld f n s).smc.level = s.smc.level ∧ (grantHeld f n s).rings = s.rings ∧
    (grantHeld f n s).placed = s.placed ∧ (grantHeld f n s).clips = s.clips ∧
    (grantHeld f n s).bu = s.bu ∧ (grantHeld f n s).sw = s.sw ∧ (grantHeld f n s).fw = s.fw ∧
    (grantHeld f n s).mu.origins = s.mu.origins ∧ (grantHeld f n s).mu.address = s.mu.address ∧
    (grantHeld f n s).mu.feedFlags = s.mu.feedFlags ∧
    (grantHeld f n s).mu.refusedOrigin = s.mu.refusedOrigin ∧
    (grantHeld f n s).mu.malformedRequests = s.mu.malformedRequests ∧
    (grantHeld f n s).mu.requestsDropped = s.mu.requestsDropped ∧
    (grantHeld f n s).mu.lastSent = s.mu.lastSent ∧ (grantHeld f n s).mu.sent = s.mu.sent ∧
    (grantHeld f n s).nextSerial = s.nextSerial ∧ (grantHeld f n s).pending = s.pending ∧
    (∀ z : FeedNo, (grantHeld f n s).feed z = s.feed z) ∧
    (∀ z : ClipNo, (grantHeld f n s).clip z = s.clip z) ∧
    (∀ z : FeedNo, (grantHeld f n s).contextsOf z = s.contextsOf z) ∧
    (∀ z : FeedNo, (grantHeld f n s).ring z = s.ring z) ∧
    (∀ z : FeedNo, (grantHeld f n s).flagsOf z = s.flagsOf z) ∧
    (∀ z : FeedNo, (grantHeld f n s).watchEntry z = s.watchEntry z) := by
  unfold grantHeld; (repeat' split) <;> simp

/-- With no join to meet, what grantHeld leaves of the requests and the waiting response. -/
@[simp] theorem grantHeld_unmet (f : FeedNo) (n : Nat) (s : State) (hj : s.mu.joined = none) :
    (grantHeld f n s).mu.joined = none ∧ (grantHeld f n s).mu.requests = s.mu.requests ∧
    (grantHeld f n s).mu.waiting = s.mu.waiting ∧ (grantHeld f n s).mu.resetDue = s.mu.resetDue := by
  unfold grantHeld; (repeat' split) <;> simp (maxDischargeDepth := 40) [hj]

/-- What recordAndCommit leaves as it was. -/
@[simp] theorem recordAndCommit_frame (f : FeedNo) (x : HandedUnit) (l : List Nat) (y : Context)
    (s : State) :
    (recordAndCommit f x l y s).wall = s.wall ∧
    (recordAndCommit f x l y s).resetLine = s.resetLine ∧
    (recordAndCommit f x l y s).contribCarrier = s.contribCarrier ∧
    (recordAndCommit f x l y s).storCarrier = s.storCarrier ∧
    (recordAndCommit f x l y s).holdLine = s.holdLine ∧
    (recordAndCommit f x l y s).feeds = s.feeds ∧ (recordAndCommit f x l y s).port = s.port ∧
    (recordAndCommit f x l y s).handedUnits = s.handedUnits ∧
    (recordAndCommit f x l y s).smc = s.smc ∧ (recordAndCommit f x l y s).rings = s.rings ∧
    (recordAndCommit f x l y s).placed = s.placed ∧ (recordAndCommit f x l y s).clips = s.clips ∧
    (recordAndCommit f x l y s).bu = s.bu ∧ (recordAndCommit f x l y s).sw = s.sw ∧
    (recordAndCommit f x l y s).fw = s.fw ∧ (recordAndCommit f x l y s).mu = s.mu ∧
    (recordAndCommit f x l y s).nextSerial = s.nextSerial ∧
    (recordAndCommit f x l y s).pending = s.pending ∧
    (∀ z : FeedNo, (recordAndCommit f x l y s).feed z = s.feed z) ∧
    (∀ z : ClipNo, (recordAndCommit f x l y s).clip z = s.clip z) ∧
    (∀ z : FeedNo, (recordAndCommit f x l y s).ring z = s.ring z) ∧
    (∀ z : FeedNo, (recordAndCommit f x l y s).holding z = s.holding z) ∧
    (∀ z : FeedNo, (recordAndCommit f x l y s).flagsOf z = s.flagsOf z) ∧
    (∀ z : FeedNo, (recordAndCommit f x l y s).watchEntry z = s.watchEntry z) := by
  unfold recordAndCommit; dsimp only; split <;> simp (maxDischargeDepth := 40) [State.feed, State.clip, State.contextsOf, State.ring,
    State.holding, State.flagsOf, State.watchEntry]

/-- What judgeUnit leaves as it was. -/
@[simp] theorem judgeUnit_frame (f : FeedNo) (x : HandedUnit) (y : Context) (s : State) :
    (judgeUnit f x y s).wall = s.wall ∧ (judgeUnit f x y s).resetLine = s.resetLine ∧
    (judgeUnit f x y s).contribCarrier = s.contribCarrier ∧
    (judgeUnit f x y s).storCarrier = s.storCarrier ∧ (judgeUnit f x y s).holdLine = s.holdLine ∧
    (judgeUnit f x y s).port = s.port ∧ (judgeUnit f x y s).handedUnits = s.handedUnits ∧
    (judgeUnit f x y s).smc.level = s.smc.level ∧ (judgeUnit f x y s).rings = s.rings ∧
    (judgeUnit f x y s).placed = s.placed ∧ (judgeUnit f x y s).clips = s.clips ∧
    (judgeUnit f x y s).bu = s.bu ∧ (judgeUnit f x y s).sw = s.sw ∧ (judgeUnit f x y s).fw = s.fw ∧
    (judgeUnit f x y s).mu.origins = s.mu.origins ∧ (judgeUnit f x y s).mu.address = s.mu.address ∧
    (judgeUnit f x y s).mu.feedFlags = s.mu.feedFlags ∧
    (judgeUnit f x y s).mu.refusedOrigin = s.mu.refusedOrigin ∧
    (judgeUnit f x y s).mu.malformedRequests = s.mu.malformedRequests ∧
    (judgeUnit f x y s).mu.requestsDropped = s.mu.requestsDropped ∧
    (judgeUnit f x y s).mu.lastSent = s.mu.lastSent ∧ (judgeUnit f x y s).mu.sent = s.mu.sent ∧
    (judgeUnit f x y s).nextSerial = s.nextSerial ∧ (judgeUnit f x y s).pending = s.pending ∧
    (∀ z : ClipNo, (judgeUnit f x y s).clip z = s.clip z) ∧
    (∀ z : FeedNo, (judgeUnit f x y s).ring z = s.ring z) ∧
    (∀ z : FeedNo, (judgeUnit f x y s).flagsOf z = s.flagsOf z) ∧
    (∀ z : FeedNo, (judgeUnit f x y s).watchEntry z = s.watchEntry z) := by
  unfold judgeUnit; dsimp only; (repeat' split) <;> simp

/-- With no join to meet, what judgeUnit leaves of the requests and the waiting response. -/
@[simp] theorem judgeUnit_unmet (f : FeedNo) (x : HandedUnit) (y : Context) (s : State)
    (hj : s.mu.joined = none) :
    (judgeUnit f x y s).mu.joined = none ∧ (judgeUnit f x y s).mu.requests = s.mu.requests ∧
    (judgeUnit f x y s).mu.waiting = s.mu.waiting ∧
    (judgeUnit f x y s).mu.resetDue = s.mu.resetDue := by
  unfold judgeUnit; dsimp only; (repeat' split) <;> simp (maxDischargeDepth := 40) [hj]

/-- What assemble leaves as it was. -/
@[simp] theorem assemble_frame (f : FeedNo) (x : HandedUnit) (s : State) :
    (assemble f x s).wall = s.wall ∧ (assemble f x s).resetLine = s.resetLine ∧
    (assemble f x s).contribCarrier = s.contribCarrier ∧
    (assemble f x s).storCarrier = s.storCarrier ∧ (assemble f x s).holdLine = s.holdLine ∧
    (assemble f x s).port = s.port ∧ (assemble f x s).handedUnits = s.handedUnits ∧
    (assemble f x s).smc.level = s.smc.level ∧ (assemble f x s).rings = s.rings ∧
    (assemble f x s).placed = s.placed ∧ (assemble f x s).clips = s.clips ∧
    (assemble f x s).bu = s.bu ∧ (assemble f x s).sw = s.sw ∧ (assemble f x s).fw = s.fw ∧
    (assemble f x s).mu.origins = s.mu.origins ∧ (assemble f x s).mu.address = s.mu.address ∧
    (assemble f x s).mu.feedFlags = s.mu.feedFlags ∧
    (assemble f x s).mu.refusedOrigin = s.mu.refusedOrigin ∧
    (assemble f x s).mu.malformedRequests = s.mu.malformedRequests ∧
    (assemble f x s).mu.requestsDropped = s.mu.requestsDropped ∧
    (assemble f x s).mu.lastSent = s.mu.lastSent ∧ (assemble f x s).mu.sent = s.mu.sent ∧
    (assemble f x s).nextSerial = s.nextSerial ∧ (assemble f x s).pending = s.pending ∧
    (∀ z : ClipNo, (assemble f x s).clip z = s.clip z) ∧
    (∀ z : FeedNo, (assemble f x s).ring z = s.ring z) ∧
    (∀ z : FeedNo, (assemble f x s).flagsOf z = s.flagsOf z) ∧
    (∀ z : FeedNo, (assemble f x s).watchEntry z = s.watchEntry z) := by
  unfold assemble; dsimp only; (repeat' split) <;> simp

/-- With no join to meet, what assemble leaves of the requests and the waiting response. -/
@[simp] theorem assemble_unmet (f : FeedNo) (x : HandedUnit) (s : State) (hj : s.mu.joined = none) :
    (assemble f x s).mu.joined = none ∧ (assemble f x s).mu.requests = s.mu.requests ∧
    (assemble f x s).mu.waiting = s.mu.waiting ∧ (assemble f x s).mu.resetDue = s.mu.resetDue := by
  unfold assemble; dsimp only; (repeat' split) <;> simp (maxDischargeDepth := 40) [hj]

/-- What a run of abandonIncomplete over a list leaves as it was. -/
@[simp] theorem abandonIncomplete_foldl_frame (l : List Context) (f : FeedNo) (s : State) :
    (l.foldl (fun s x => abandonIncomplete f x s) s).wall = s.wall ∧
    (l.foldl (fun s x => abandonIncomplete f x s) s).resetLine = s.resetLine ∧
    (l.foldl (fun s x => abandonIncomplete f x s) s).contribCarrier = s.contribCarrier ∧
    (l.foldl (fun s x => abandonIncomplete f x s) s).storCarrier = s.storCarrier ∧
    (l.foldl (fun s x => abandonIncomplete f x s) s).holdLine = s.holdLine ∧
    (l.foldl (fun s x => abandonIncomplete f x s) s).port = s.port ∧
    (l.foldl (fun s x => abandonIncomplete f x s) s).handedUnits = s.handedUnits ∧
    (l.foldl (fun s x => abandonIncomplete f x s) s).handedFrames = s.handedFrames ∧
    (l.foldl (fun s x => abandonIncomplete f x s) s).contexts = s.contexts ∧
    (l.foldl (fun s x => abandonIncomplete f x s) s).smc.level = s.smc.level ∧
    (l.foldl (fun s x => abandonIncomplete f x s) s).smc.raises = s.smc.raises ∧
    (l.foldl (fun s x => abandonIncomplete f x s) s).rings = s.rings ∧
    (l.foldl (fun s x => abandonIncomplete f x s) s).placed = s.placed ∧
    (l.foldl (fun s x => abandonIncomplete f x s) s).clips = s.clips ∧
    (l.foldl (fun s x => abandonIncomplete f x s) s).bu = s.bu ∧
    (l.foldl (fun s x => abandonIncomplete f x s) s).sw = s.sw ∧
    (l.foldl (fun s x => abandonIncomplete f x s) s).fw = s.fw ∧
    (l.foldl (fun s x => abandonIncomplete f x s) s).mu.origins = s.mu.origins ∧
    (l.foldl (fun s x => abandonIncomplete f x s) s).mu.address = s.mu.address ∧
    (l.foldl (fun s x => abandonIncomplete f x s) s).mu.feedFlags = s.mu.feedFlags ∧
    (l.foldl (fun s x => abandonIncomplete f x s) s).mu.refusedOrigin = s.mu.refusedOrigin ∧
    (l.foldl (fun s x => abandonIncomplete f x s) s).mu.malformedRequests = s.mu.malformedRequests ∧
    (l.foldl (fun s x => abandonIncomplete f x s) s).mu.requestsDropped = s.mu.requestsDropped ∧
    (l.foldl (fun s x => abandonIncomplete f x s) s).mu.lastSent = s.mu.lastSent ∧
    (l.foldl (fun s x => abandonIncomplete f x s) s).mu.sent = s.mu.sent ∧
    (l.foldl (fun s x => abandonIncomplete f x s) s).nextSerial = s.nextSerial ∧
    (l.foldl (fun s x => abandonIncomplete f x s) s).pending = s.pending ∧
    (∀ z : ClipNo, (l.foldl (fun s x => abandonIncomplete f x s) s).clip z = s.clip z) ∧
    (∀ z : FeedNo, (l.foldl (fun s x => abandonIncomplete f x s) s).contextsOf z = s.contextsOf z) ∧
    (∀ z : FeedNo, (l.foldl (fun s x => abandonIncomplete f x s) s).ring z = s.ring z) ∧
    (∀ z : FeedNo, (l.foldl (fun s x => abandonIncomplete f x s) s).flagsOf z = s.flagsOf z) ∧
    (∀ z : FeedNo, (l.foldl (fun s x => abandonIncomplete f x s) s).watchEntry z = s.watchEntry z) := by
  induction l generalizing s with
  | nil => simp
  | cons x xs ih => simp [ih]

/-- With no join to meet, what a run of abandonIncomplete leaves of the requests and the waiting response. -/
@[simp] theorem abandonIncomplete_foldl_unmet (l : List Context) (f : FeedNo) (s : State)
    (hj : s.mu.joined = none) :
    (l.foldl (fun s x => abandonIncomplete f x s) s).mu.joined = none ∧
    (l.foldl (fun s x => abandonIncomplete f x s) s).mu.requests = s.mu.requests ∧
    (l.foldl (fun s x => abandonIncomplete f x s) s).mu.waiting = s.mu.waiting ∧
    (l.foldl (fun s x => abandonIncomplete f x s) s).mu.resetDue = s.mu.resetDue := by
  induction l generalizing s with
  | nil => simp (maxDischargeDepth := 40) [hj]
  | cons x xs ih => simp (maxDischargeDepth := 40) [ih, hj]

/-- What expireFeed leaves as it was. -/
@[simp] theorem expireFeed_frame (f : FeedNo) (s : State) :
    (expireFeed f s).wall = s.wall ∧ (expireFeed f s).resetLine = s.resetLine ∧
    (expireFeed f s).contribCarrier = s.contribCarrier ∧
    (expireFeed f s).storCarrier = s.storCarrier ∧ (expireFeed f s).holdLine = s.holdLine ∧
    (expireFeed f s).port = s.port ∧ (expireFeed f s).handedUnits = s.handedUnits ∧
    (expireFeed f s).handedFrames = s.handedFrames ∧ (expireFeed f s).smc.level = s.smc.level ∧
    (expireFeed f s).smc.raises = s.smc.raises ∧ (expireFeed f s).rings = s.rings ∧
    (expireFeed f s).placed = s.placed ∧ (expireFeed f s).clips = s.clips ∧
    (expireFeed f s).bu = s.bu ∧ (expireFeed f s).sw = s.sw ∧ (expireFeed f s).fw = s.fw ∧
    (expireFeed f s).mu.origins = s.mu.origins ∧ (expireFeed f s).mu.address = s.mu.address ∧
    (expireFeed f s).mu.feedFlags = s.mu.feedFlags ∧
    (expireFeed f s).mu.refusedOrigin = s.mu.refusedOrigin ∧
    (expireFeed f s).mu.malformedRequests = s.mu.malformedRequests ∧
    (expireFeed f s).mu.requestsDropped = s.mu.requestsDropped ∧
    (expireFeed f s).mu.lastSent = s.mu.lastSent ∧ (expireFeed f s).mu.sent = s.mu.sent ∧
    (expireFeed f s).nextSerial = s.nextSerial ∧ (expireFeed f s).pending = s.pending ∧
    (∀ z : ClipNo, (expireFeed f s).clip z = s.clip z) ∧
    (∀ z : FeedNo, (expireFeed f s).ring z = s.ring z) ∧
    (∀ z : FeedNo, (expireFeed f s).flagsOf z = s.flagsOf z) ∧
    (∀ z : FeedNo, (expireFeed f s).watchEntry z = s.watchEntry z) := by
  simp [expireFeed]

/-- With no join to meet, what expireFeed leaves of the requests and the waiting response. -/
@[simp] theorem expireFeed_unmet (f : FeedNo) (s : State) (hj : s.mu.joined = none) :
    (expireFeed f s).mu.joined = none ∧ (expireFeed f s).mu.requests = s.mu.requests ∧
    (expireFeed f s).mu.waiting = s.mu.waiting ∧ (expireFeed f s).mu.resetDue = s.mu.resetDue := by
  simp (maxDischargeDepth := 40) [expireFeed, hj]

end Sys2Proof.Machine
end

