-- ==== Sys2Proof/Laws/Browse.lean ====
section
/-! SUPPORT. The frames of the end of a reduction step and of the offer of freed entries, and what each
of them can do. -/

namespace Sys2Proof.Machine

/-- What discardLane leaves as it was. -/
@[simp] theorem discardLane_frame (r : Reduction) (s : State) :
    (discardLane r s).wall = s.wall ∧ (discardLane r s).resetLine = s.resetLine ∧
    (discardLane r s).contribCarrier = s.contribCarrier ∧
    (discardLane r s).storCarrier = s.storCarrier ∧ (discardLane r s).holdLine = s.holdLine ∧
    (discardLane r s).feeds = s.feeds ∧ (discardLane r s).port = s.port ∧
    (discardLane r s).handedUnits = s.handedUnits ∧
    (discardLane r s).handedFrames = s.handedFrames ∧ (discardLane r s).contexts = s.contexts ∧
    (discardLane r s).smc.level = s.smc.level ∧ (discardLane r s).smc.holdings = s.smc.holdings ∧
    (discardLane r s).smc.raises = s.smc.raises ∧ (discardLane r s).rings = s.rings ∧
    (discardLane r s).clips = s.clips ∧ (discardLane r s).bu.queue = s.bu.queue ∧
    (discardLane r s).bu.step = s.bu.step ∧ (discardLane r s).bu.durA = s.bu.durA ∧
    (discardLane r s).bu.durB = s.bu.durB ∧ (discardLane r s).bu.serial = s.bu.serial ∧
    (discardLane r s).sw = s.sw ∧ (discardLane r s).fw = s.fw ∧
    (discardLane r s).mu.origins = s.mu.origins ∧ (discardLane r s).mu.address = s.mu.address ∧
    (discardLane r s).mu.feedFlags = s.mu.feedFlags ∧
    (discardLane r s).mu.refusedOrigin = s.mu.refusedOrigin ∧
    (discardLane r s).mu.malformedRequests = s.mu.malformedRequests ∧
    (discardLane r s).mu.requestsDropped = s.mu.requestsDropped ∧
    (discardLane r s).mu.lastSent = s.mu.lastSent ∧ (discardLane r s).mu.sent = s.mu.sent ∧
    (discardLane r s).nextSerial = s.nextSerial ∧ (discardLane r s).pending = s.pending ∧
    (∀ z : FeedNo, (discardLane r s).feed z = s.feed z) ∧
    (∀ z : ClipNo, (discardLane r s).clip z = s.clip z) ∧
    (∀ z : FeedNo, (discardLane r s).contextsOf z = s.contextsOf z) ∧
    (∀ z : FeedNo, (discardLane r s).ring z = s.ring z) ∧
    (∀ z : FeedNo, (discardLane r s).holding z = s.holding z) ∧
    (∀ z : FeedNo, (discardLane r s).flagsOf z = s.flagsOf z) ∧
    (∀ z : FeedNo, (discardLane r s).watchEntry z = s.watchEntry z) := by
  simp [discardLane]

/-- With no join to meet, what discardLane leaves of the requests and the waiting response. -/
@[simp] theorem discardLane_unmet (r : Reduction) (s : State) (hj : s.mu.joined = none) :
    (discardLane r s).mu.joined = none ∧ (discardLane r s).mu.requests = s.mu.requests ∧
    (discardLane r s).mu.waiting = s.mu.waiting ∧ (discardLane r s).mu.resetDue = s.mu.resetDue := by
  simp (maxDischargeDepth := 40) [discardLane, hj]

/-- What shedLane leaves as it was. -/
@[simp] theorem shedLane_frame (r : Reduction) (s : State) :
    (shedLane r s).wall = s.wall ∧ (shedLane r s).resetLine = s.resetLine ∧
    (shedLane r s).contribCarrier = s.contribCarrier ∧ (shedLane r s).storCarrier = s.storCarrier ∧
    (shedLane r s).holdLine = s.holdLine ∧ (shedLane r s).feeds = s.feeds ∧
    (shedLane r s).port = s.port ∧ (shedLane r s).handedUnits = s.handedUnits ∧
    (shedLane r s).handedFrames = s.handedFrames ∧ (shedLane r s).contexts = s.contexts ∧
    (shedLane r s).smc.level = s.smc.level ∧ (shedLane r s).smc.holdings = s.smc.holdings ∧
    (shedLane r s).smc.raises = s.smc.raises ∧ (shedLane r s).rings = s.rings ∧
    (shedLane r s).bu.queue = s.bu.queue ∧ (shedLane r s).bu.step = s.bu.step ∧
    (shedLane r s).bu.durA = s.bu.durA ∧ (shedLane r s).bu.durB = s.bu.durB ∧
    (shedLane r s).bu.serial = s.bu.serial ∧ (shedLane r s).sw = s.sw ∧ (shedLane r s).fw = s.fw ∧
    (shedLane r s).mu.origins = s.mu.origins ∧ (shedLane r s).mu.address = s.mu.address ∧
    (shedLane r s).mu.feedFlags = s.mu.feedFlags ∧
    (shedLane r s).mu.refusedOrigin = s.mu.refusedOrigin ∧
    (shedLane r s).mu.malformedRequests = s.mu.malformedRequests ∧
    (shedLane r s).mu.requestsDropped = s.mu.requestsDropped ∧
    (shedLane r s).mu.lastSent = s.mu.lastSent ∧ (shedLane r s).mu.sent = s.mu.sent ∧
    (shedLane r s).nextSerial = s.nextSerial ∧ (shedLane r s).pending = s.pending ∧
    (∀ z : FeedNo, (shedLane r s).feed z = s.feed z) ∧
    (∀ z : FeedNo, (shedLane r s).contextsOf z = s.contextsOf z) ∧
    (∀ z : FeedNo, (shedLane r s).ring z = s.ring z) ∧
    (∀ z : FeedNo, (shedLane r s).holding z = s.holding z) ∧
    (∀ z : FeedNo, (shedLane r s).flagsOf z = s.flagsOf z) ∧
    (∀ z : FeedNo, (shedLane r s).watchEntry z = s.watchEntry z) := by
  simp [shedLane]

/-- With no join to meet, what shedLane leaves of the requests and the waiting response. -/
@[simp] theorem shedLane_unmet (r : Reduction) (s : State) (hj : s.mu.joined = none) :
    (shedLane r s).mu.joined = none ∧ (shedLane r s).mu.requests = s.mu.requests ∧
    (shedLane r s).mu.waiting = s.mu.waiting ∧ (shedLane r s).mu.resetDue = s.mu.resetDue := by
  simp (maxDischargeDepth := 40) [shedLane, hj]

/-- What deliverLane leaves as it was. -/
@[simp] theorem deliverLane_frame (r : Reduction) (s : State) :
    (deliverLane r s).wall = s.wall ∧ (deliverLane r s).resetLine = s.resetLine ∧
    (deliverLane r s).contribCarrier = s.contribCarrier ∧
    (deliverLane r s).storCarrier = s.storCarrier ∧ (deliverLane r s).holdLine = s.holdLine ∧
    (deliverLane r s).feeds = s.feeds ∧ (deliverLane r s).port = s.port ∧
    (deliverLane r s).handedUnits = s.handedUnits ∧
    (deliverLane r s).handedFrames = s.handedFrames ∧ (deliverLane r s).contexts = s.contexts ∧
    (deliverLane r s).smc.level = s.smc.level ∧ (deliverLane r s).smc.holdings = s.smc.holdings ∧
    (deliverLane r s).smc.raises = s.smc.raises ∧ (deliverLane r s).rings = s.rings ∧
    (deliverLane r s).clips = s.clips ∧ (deliverLane r s).bu.queue = s.bu.queue ∧
    (deliverLane r s).bu.step = s.bu.step ∧ (deliverLane r s).bu.durA = s.bu.durA ∧
    (deliverLane r s).bu.durB = s.bu.durB ∧ (deliverLane r s).sw.settings = s.sw.settings ∧
    (deliverLane r s).sw.late = s.sw.late ∧ (deliverLane r s).sw.retired = s.sw.retired ∧
    (deliverLane r s).sw.paused = s.sw.paused ∧ (deliverLane r s).sw.records = s.sw.records ∧
    (deliverLane r s).sw.stray = s.sw.stray ∧ (deliverLane r s).sw.readies = s.sw.readies ∧
    (deliverLane r s).sw.foreign = s.sw.foreign ∧
    (deliverLane r s).sw.lastMessages = s.sw.lastMessages ∧ (deliverLane r s).fw = s.fw ∧
    (deliverLane r s).mu.origins = s.mu.origins ∧ (deliverLane r s).mu.address = s.mu.address ∧
    (deliverLane r s).mu.feedFlags = s.mu.feedFlags ∧
    (deliverLane r s).mu.refusedOrigin = s.mu.refusedOrigin ∧
    (deliverLane r s).mu.malformedRequests = s.mu.malformedRequests ∧
    (deliverLane r s).mu.requestsDropped = s.mu.requestsDropped ∧
    (deliverLane r s).mu.lastSent = s.mu.lastSent ∧ (deliverLane r s).mu.sent = s.mu.sent ∧
    (deliverLane r s).pending = s.pending ∧ (∀ z : FeedNo, (deliverLane r s).feed z = s.feed z) ∧
    (∀ z : ClipNo, (deliverLane r s).clip z = s.clip z) ∧
    (∀ z : FeedNo, (deliverLane r s).contextsOf z = s.contextsOf z) ∧
    (∀ z : FeedNo, (deliverLane r s).ring z = s.ring z) ∧
    (∀ z : FeedNo, (deliverLane r s).holding z = s.holding z) ∧
    (∀ z : FeedNo, (deliverLane r s).flagsOf z = s.flagsOf z) ∧
    (∀ z : FeedNo, (deliverLane r s).watchEntry z = s.watchEntry z) := by
  simp [deliverLane, State.feed, State.clip, State.contextsOf, State.ring, State.holding,
    State.flagsOf, State.watchEntry]

/-- With no join to meet, what deliverLane leaves of the requests and the waiting response. -/
@[simp] theorem deliverLane_unmet (r : Reduction) (s : State) (hj : s.mu.joined = none) :
    (deliverLane r s).mu.joined = none ∧ (deliverLane r s).mu.requests = s.mu.requests ∧
    (deliverLane r s).mu.waiting = s.mu.waiting ∧ (deliverLane r s).mu.resetDue = s.mu.resetDue := by
  simp (maxDischargeDepth := 40) [deliverLane, State.feed, State.clip, State.contextsOf, State.ring, State.holding,
    State.flagsOf, State.watchEntry, hj]

/-- What finishLane leaves as it was. -/
@[simp] theorem finishLane_frame (r : Reduction) (s : State) :
    (finishLane s r).wall = s.wall ∧ (finishLane s r).resetLine = s.resetLine ∧
    (finishLane s r).contribCarrier = s.contribCarrier ∧
    (finishLane s r).storCarrier = s.storCarrier ∧ (finishLane s r).holdLine = s.holdLine ∧
    (finishLane s r).feeds = s.feeds ∧ (finishLane s r).port = s.port ∧
    (finishLane s r).handedUnits = s.handedUnits ∧ (finishLane s r).handedFrames = s.handedFrames ∧
    (finishLane s r).contexts = s.contexts ∧ (finishLane s r).smc.level = s.smc.level ∧
    (finishLane s r).smc.holdings = s.smc.holdings ∧ (finishLane s r).smc.raises = s.smc.raises ∧
    (finishLane s r).rings = s.rings ∧ (finishLane s r).bu.queue = s.bu.queue ∧
    (finishLane s r).bu.step = s.bu.step ∧ (finishLane s r).bu.durA = s.bu.durA ∧
    (finishLane s r).bu.durB = s.bu.durB ∧ (finishLane s r).sw.settings = s.sw.settings ∧
    (finishLane s r).sw.late = s.sw.late ∧ (finishLane s r).sw.retired = s.sw.retired ∧
    (finishLane s r).sw.paused = s.sw.paused ∧ (finishLane s r).sw.records = s.sw.records ∧
    (finishLane s r).sw.stray = s.sw.stray ∧ (finishLane s r).sw.readies = s.sw.readies ∧
    (finishLane s r).sw.foreign = s.sw.foreign ∧
    (finishLane s r).sw.lastMessages = s.sw.lastMessages ∧ (finishLane s r).fw = s.fw ∧
    (finishLane s r).mu.origins = s.mu.origins ∧ (finishLane s r).mu.address = s.mu.address ∧
    (finishLane s r).mu.feedFlags = s.mu.feedFlags ∧
    (finishLane s r).mu.refusedOrigin = s.mu.refusedOrigin ∧
    (finishLane s r).mu.malformedRequests = s.mu.malformedRequests ∧
    (finishLane s r).mu.requestsDropped = s.mu.requestsDropped ∧
    (finishLane s r).mu.lastSent = s.mu.lastSent ∧ (finishLane s r).mu.sent = s.mu.sent ∧
    (finishLane s r).pending = s.pending ∧ (∀ z : FeedNo, (finishLane s r).feed z = s.feed z) ∧
    (∀ z : FeedNo, (finishLane s r).contextsOf z = s.contextsOf z) ∧
    (∀ z : FeedNo, (finishLane s r).ring z = s.ring z) ∧
    (∀ z : FeedNo, (finishLane s r).holding z = s.holding z) ∧
    (∀ z : FeedNo, (finishLane s r).flagsOf z = s.flagsOf z) ∧
    (∀ z : FeedNo, (finishLane s r).watchEntry z = s.watchEntry z) := by
  unfold finishLane; (repeat' split) <;> simp

/-- With no join to meet, what finishLane leaves of the requests and the waiting response. -/
@[simp] theorem finishLane_unmet (r : Reduction) (s : State) (hj : s.mu.joined = none) :
    (finishLane s r).mu.joined = none ∧ (finishLane s r).mu.requests = s.mu.requests ∧
    (finishLane s r).mu.waiting = s.mu.waiting ∧ (finishLane s r).mu.resetDue = s.mu.resetDue := by
  unfold finishLane; (repeat' split) <;> simp (maxDischargeDepth := 40) [hj]

/-- What a run of finishLane over a list leaves as it was. -/
@[simp] theorem finishLane_foldl_frame (l : List Reduction) (s : State) :
    (l.foldl finishLane s).wall = s.wall ∧ (l.foldl finishLane s).resetLine = s.resetLine ∧
    (l.foldl finishLane s).contribCarrier = s.contribCarrier ∧
    (l.foldl finishLane s).storCarrier = s.storCarrier ∧
    (l.foldl finishLane s).holdLine = s.holdLine ∧ (l.foldl finishLane s).feeds = s.feeds ∧
    (l.foldl finishLane s).port = s.port ∧ (l.foldl finishLane s).handedUnits = s.handedUnits ∧
    (l.foldl finishLane s).handedFrames = s.handedFrames ∧
    (l.foldl finishLane s).contexts = s.contexts ∧ (l.foldl finishLane s).smc.level = s.smc.level ∧
    (l.foldl finishLane s).smc.holdings = s.smc.holdings ∧
    (l.foldl finishLane s).smc.raises = s.smc.raises ∧ (l.foldl finishLane s).rings = s.rings ∧
    (l.foldl finishLane s).bu.queue = s.bu.queue ∧ (l.foldl finishLane s).bu.step = s.bu.step ∧
    (l.foldl finishLane s).bu.durA = s.bu.durA ∧ (l.foldl finishLane s).bu.durB = s.bu.durB ∧
    (l.foldl finishLane s).sw.settings = s.sw.settings ∧
    (l.foldl finishLane s).sw.late = s.sw.late ∧ (l.foldl finishLane s).sw.retired = s.sw.retired ∧
    (l.foldl finishLane s).sw.paused = s.sw.paused ∧
    (l.foldl finishLane s).sw.records = s.sw.records ∧
    (l.foldl finishLane s).sw.stray = s.sw.stray ∧
    (l.foldl finishLane s).sw.readies = s.sw.readies ∧
    (l.foldl finishLane s).sw.foreign = s.sw.foreign ∧
    (l.foldl finishLane s).sw.lastMessages = s.sw.lastMessages ∧ (l.foldl finishLane s).fw = s.fw ∧
    (l.foldl finishLane s).mu.origins = s.mu.origins ∧
    (l.foldl finishLane s).mu.address = s.mu.address ∧
    (l.foldl finishLane s).mu.feedFlags = s.mu.feedFlags ∧
    (l.foldl finishLane s).mu.refusedOrigin = s.mu.refusedOrigin ∧
    (l.foldl finishLane s).mu.malformedRequests = s.mu.malformedRequests ∧
    (l.foldl finishLane s).mu.requestsDropped = s.mu.requestsDropped ∧
    (l.foldl finishLane s).mu.lastSent = s.mu.lastSent ∧
    (l.foldl finishLane s).mu.sent = s.mu.sent ∧ (l.foldl finishLane s).pending = s.pending ∧
    (∀ z : FeedNo, (l.foldl finishLane s).feed z = s.feed z) ∧
    (∀ z : FeedNo, (l.foldl finishLane s).contextsOf z = s.contextsOf z) ∧
    (∀ z : FeedNo, (l.foldl finishLane s).ring z = s.ring z) ∧
    (∀ z : FeedNo, (l.foldl finishLane s).holding z = s.holding z) ∧
    (∀ z : FeedNo, (l.foldl finishLane s).flagsOf z = s.flagsOf z) ∧
    (∀ z : FeedNo, (l.foldl finishLane s).watchEntry z = s.watchEntry z) := by
  induction l generalizing s with
  | nil => simp
  | cons x xs ih => simp [ih]

/-- With no join to meet, what a run of finishLane leaves of the requests and the waiting response. -/
@[simp] theorem finishLane_foldl_unmet (l : List Reduction) (s : State) (hj : s.mu.joined = none) :
    (l.foldl finishLane s).mu.joined = none ∧ (l.foldl finishLane s).mu.requests = s.mu.requests ∧
    (l.foldl finishLane s).mu.waiting = s.mu.waiting ∧
    (l.foldl finishLane s).mu.resetDue = s.mu.resetDue := by
  induction l generalizing s with
  | nil => simp (maxDischargeDepth := 40) [hj]
  | cons x xs ih => simp (maxDischargeDepth := 40) [ih, hj]

/-- What finishStep leaves as it was. -/
@[simp] theorem finishStep_frame (s : State) :
    (finishStep s).wall = s.wall ∧ (finishStep s).resetLine = s.resetLine ∧
    (finishStep s).contribCarrier = s.contribCarrier ∧ (finishStep s).storCarrier = s.storCarrier ∧
    (finishStep s).holdLine = s.holdLine ∧ (finishStep s).feeds = s.feeds ∧
    (finishStep s).port = s.port ∧ (finishStep s).handedUnits = s.handedUnits ∧
    (finishStep s).handedFrames = s.handedFrames ∧ (finishStep s).contexts = s.contexts ∧
    (finishStep s).smc.level = s.smc.level ∧ (finishStep s).smc.holdings = s.smc.holdings ∧
    (finishStep s).rings = s.rings ∧ (finishStep s).bu.durA = s.bu.durA ∧
    (finishStep s).bu.durB = s.bu.durB ∧ (finishStep s).sw.settings = s.sw.settings ∧
    (finishStep s).sw.late = s.sw.late ∧ (finishStep s).sw.retired = s.sw.retired ∧
    (finishStep s).sw.paused = s.sw.paused ∧ (finishStep s).sw.records = s.sw.records ∧
    (finishStep s).sw.stray = s.sw.stray ∧ (finishStep s).sw.readies = s.sw.readies ∧
    (finishStep s).sw.foreign = s.sw.foreign ∧ (finishStep s).sw.lastMessages = s.sw.lastMessages ∧
    (finishStep s).fw = s.fw ∧ (finishStep s).mu.origins = s.mu.origins ∧
    (finishStep s).mu.address = s.mu.address ∧ (finishStep s).mu.feedFlags = s.mu.feedFlags ∧
    (finishStep s).mu.refusedOrigin = s.mu.refusedOrigin ∧
    (finishStep s).mu.malformedRequests = s.mu.malformedRequests ∧
    (finishStep s).mu.requestsDropped = s.mu.requestsDropped ∧
    (finishStep s).mu.lastSent = s.mu.lastSent ∧ (finishStep s).mu.sent = s.mu.sent ∧
    (finishStep s).pending = s.pending ∧ (∀ z : FeedNo, (finishStep s).feed z = s.feed z) ∧
    (∀ z : FeedNo, (finishStep s).contextsOf z = s.contextsOf z) ∧
    (∀ z : FeedNo, (finishStep s).ring z = s.ring z) ∧
    (∀ z : FeedNo, (finishStep s).holding z = s.holding z) ∧
    (∀ z : FeedNo, (finishStep s).flagsOf z = s.flagsOf z) ∧
    (∀ z : FeedNo, (finishStep s).watchEntry z = s.watchEntry z) := by
  unfold finishStep; (repeat' split) <;>
    simp [State.feed, State.contextsOf, State.ring, State.holding, State.flagsOf, State.watchEntry]

/-- With no join to meet, what finishStep leaves of the requests and the waiting response. -/
@[simp] theorem finishStep_unmet (s : State) (hj : s.mu.joined = none) :
    (finishStep s).mu.joined = none ∧ (finishStep s).mu.requests = s.mu.requests ∧
    (finishStep s).mu.waiting = s.mu.waiting ∧ (finishStep s).mu.resetDue = s.mu.resetDue := by
  unfold finishStep; (repeat' split) <;>
    simp (maxDischargeDepth := 40) [State.feed, State.contextsOf, State.ring, State.holding, State.flagsOf, State.watchEntry, hj]

/-- What endStep leaves as it was. -/
@[simp] theorem endStep_frame (s : State) :
    (endStep s).wall = s.wall ∧ (endStep s).resetLine = s.resetLine ∧
    (endStep s).contribCarrier = s.contribCarrier ∧ (endStep s).storCarrier = s.storCarrier ∧
    (endStep s).holdLine = s.holdLine ∧ (endStep s).port = s.port ∧
    (endStep s).smc.level = s.smc.level ∧ (endStep s).bu.durA = s.bu.durA ∧
    (endStep s).bu.durB = s.bu.durB ∧ (endStep s).sw.settings = s.sw.settings ∧
    (endStep s).sw.retired = s.sw.retired ∧ (endStep s).sw.paused = s.sw.paused ∧
    (endStep s).sw.stray = s.sw.stray ∧ (endStep s).sw.readies = s.sw.readies ∧
    (endStep s).sw.foreign = s.sw.foreign ∧ (endStep s).sw.lastMessages = s.sw.lastMessages ∧
    (endStep s).fw = s.fw ∧ (endStep s).mu.origins = s.mu.origins ∧
    (endStep s).mu.address = s.mu.address ∧ (endStep s).mu.refusedOrigin = s.mu.refusedOrigin ∧
    (endStep s).mu.malformedRequests = s.mu.malformedRequests ∧
    (endStep s).mu.requestsDropped = s.mu.requestsDropped ∧
    (endStep s).mu.lastSent = s.mu.lastSent ∧ (endStep s).mu.sent = s.mu.sent ∧
    (endStep s).pending = s.pending ∧ (∀ z : FeedNo, (endStep s).watchEntry z = s.watchEntry z) := by
  unfold endStep; (repeat' split) <;> simp

/-- With no join to meet, what endStep leaves of the requests and the waiting response. -/
@[simp] theorem endStep_unmet (s : State) (hj : s.mu.joined = none) :
    (endStep s).mu.joined = none ∧ (endStep s).mu.requests = s.mu.requests ∧
    (endStep s).mu.waiting = s.mu.waiting ∧ (endStep s).mu.resetDue = s.mu.resetDue := by
  unfold endStep; (repeat' split) <;> simp (maxDischargeDepth := 40) [hj]

/-- What offerFreed leaves as it was. -/
@[simp] theorem offerFreed_frame (s : State) :
    (offerFreed s).wall = s.wall ∧ (offerFreed s).resetLine = s.resetLine ∧
    (offerFreed s).contribCarrier = s.contribCarrier ∧ (offerFreed s).storCarrier = s.storCarrier ∧
    (offerFreed s).holdLine = s.holdLine ∧ (offerFreed s).port = s.port ∧
    (offerFreed s).smc.level = s.smc.level ∧ (offerFreed s).bu.durA = s.bu.durA ∧
    (offerFreed s).bu.durB = s.bu.durB ∧ (offerFreed s).sw.settings = s.sw.settings ∧
    (offerFreed s).sw.retired = s.sw.retired ∧ (offerFreed s).sw.paused = s.sw.paused ∧
    (offerFreed s).sw.stray = s.sw.stray ∧ (offerFreed s).sw.readies = s.sw.readies ∧
    (offerFreed s).sw.foreign = s.sw.foreign ∧ (offerFreed s).sw.lastMessages = s.sw.lastMessages ∧
    (offerFreed s).fw = s.fw ∧ (offerFreed s).mu.origins = s.mu.origins ∧
    (offerFreed s).mu.address = s.mu.address ∧
    (offerFreed s).mu.refusedOrigin = s.mu.refusedOrigin ∧
    (offerFreed s).mu.malformedRequests = s.mu.malformedRequests ∧
    (offerFreed s).mu.requestsDropped = s.mu.requestsDropped ∧
    (offerFreed s).mu.lastSent = s.mu.lastSent ∧ (offerFreed s).mu.sent = s.mu.sent ∧
    (offerFreed s).pending = s.pending ∧
    (∀ z : FeedNo, (offerFreed s).watchEntry z = s.watchEntry z) := by
  unfold offerFreed; split <;> simp

/-- With no join to meet, what offerFreed leaves of the requests and the waiting response. -/
@[simp] theorem offerFreed_unmet (s : State) (hj : s.mu.joined = none) :
    (offerFreed s).mu.joined = none ∧ (offerFreed s).mu.requests = s.mu.requests ∧
    (offerFreed s).mu.waiting = s.mu.waiting ∧ (offerFreed s).mu.resetDue = s.mu.resetDue := by
  unfold offerFreed; split <;> simp (maxDischargeDepth := 40) [hj]

/-- With no result of a step at a freed entry, freed entries go to the waiting heads alone. -/
theorem offerFreed_eq_offerShare (s : State) (h : resultsMeetHead s = false) :
    offerFreed s = offerShare s := by
  simp [offerFreed, h]

/-- With no head waiting, freed entries change nothing. -/
theorem offerFreed_settled (s : State) (h : firstWaiting s = none) : offerFreed s = offerShare s :=
  offerFreed_eq_offerShare s (by simp [resultsMeetHead, h])

/-- Freed entries go to the waiting heads, alone or behind the results of a step that ends. -/
theorem offerFreed_cases (s : State) :
    offerFreed s = offerShare s ∨
      (stepDue s = true ∧ (firstWaiting s).isSome = true ∧ offerFreed s = offerShare (finishStep s)) := by
  cases h : resultsMeetHead s with
  | false => exact .inl (offerFreed_eq_offerShare s h)
  | true =>
    obtain ⟨hd, hw⟩ := (Bool.and_eq_true _ _).mp h
    cases hr : Config.resultFirst s.nextSerial with
    | false => exact .inl (by simp [offerFreed, hr])
    | true => exact .inr ⟨hd, hw, by simp [offerFreed, h, hr]⟩

/-- The end of a lane: discarded, delivered or shed, and when (R110, R111). -/
theorem finishLane_cases (s : State) (r : Reduction) :
    (laneDiscarded r s = true ∧ finishLane s r = discardLane r s) ∨
      (laneDiscarded r s = false ∧ shareRoom s = true ∧ finishLane s r = deliverLane r s) ∨
      (laneDiscarded r s = false ∧ shareRoom s = false ∧ finishLane s r = shedLane r s) := by
  cases hd : laneDiscarded r s <;> cases hr : shareRoom s <;> simp [finishLane, hd, hr]

/-- The end of a step: nothing before its time, and at it every lane's end and the next start (R108). -/
theorem finishStep_cases (s : State) :
    (stepDue s = false ∧ finishStep s = s) ∨
      ∃ st, s.bu.step = some st ∧ stepDue s = true ∧
        finishStep s = kickReducer (st.lanes.foldl finishLane { s with bu := { s.bu with step := none } }) := by
  cases h : s.bu.step with
  | none => exact .inl (by simp [stepDue, finishStep, h])
  | some st =>
    cases hd : stepDue s with
    | false => exact .inl (by simp [finishStep, h, hd])
    | true => exact .inr ⟨st, rfl, rfl, by simp [finishStep, h, hd]⟩

/-- What the sending of a frame does (R163): nothing without carrier or frame; otherwise the oldest frame
leaves, and a waiting response joins. -/
theorem transmit_cases (s : State) :
    ((s.contribCarrier = false ∨ s.mu.tx = []) ∧ transmit s = s) ∨
      ∃ x xs, s.contribCarrier = true ∧ s.mu.tx = x :: xs ∧
        transmit s = joinWaiting { s with mu := { s.mu with
          tx := xs, lastSent := x.bytes, sent := s.mu.sent + 1, joined := joining s } } := by
  unfold transmit
  split
  · cases h : s.mu.tx with
    | nil => exact .inl ⟨.inr rfl, rfl⟩
    | cons x xs => exact .inr ⟨x, xs, ‹_›, rfl, rfl⟩
  · rename_i h
    exact .inl ⟨.inl (Bool.eq_false_of_not_eq_true h), rfl⟩

/-- What the join of a waiting response does (R163, R158). -/
theorem joinWaiting_cases (s : State) :
    ((s.mu.waiting = none ∨ ¬s.mu.tx.length < 16) ∧ joinWaiting s = s) ∨
      ∃ w, s.mu.waiting = some w ∧ s.mu.tx.length < 16 ∧
        joinWaiting s = { s with mu := { s.mu with
          tx := s.mu.tx ++ [w.frame], waiting := none, requests := s.mu.requests.tail,
          resetDue := s.mu.resetDue || w.reset } } := by
  unfold joinWaiting
  cases h : s.mu.waiting with
  | none => simp
  | some w => by_cases hx : s.mu.tx.length < 16 <;> simp [txRoom, hx]

end Sys2Proof.Machine
end

