-- ==== Sys2Proof/Laws/Values.lean ====
section
/-! SUPPORT. What the small shared operations do, each said once: counters, values kept per write class,
byte strings, notices, states, and the block pool. -/

namespace Sys2Proof.Machine

set_option Elab.async false

/-! ### Counters -/

/-- A counter that has not saturated grows by one. -/
theorem bump_toNat {c : Counter} (h : c ≠ BitVec.allOnes 32) : (bump c).toNat = c.toNat + 1 := by
  have hc : c.toNat ≠ 4294967295 := fun e => h (BitVec.eq_of_toNat_eq (by simp [e]))
  simp only [bump, h, if_false, BitVec.toNat_add]
  have := c.isLt
  simp; omega

/-- In either case a counter is the saturating sum. -/
theorem bump_toNat_min (c : Counter) : (bump c).toNat = min (c.toNat + 1) 4294967295 := by
  by_cases h : c = BitVec.allOnes 32
  · simp [bump, h]
  · have hc : c.toNat ≠ 4294967295 := fun e => h (BitVec.eq_of_toNat_eq (by simp [e]))
    have := c.isLt
    rw [bump_toNat h]; omega

/-- The saturating sum of the arrival byte count. -/
theorem satAdd_toNat (c : BitVec 32) (n : Nat) : (satAdd c n).toNat = min (c.toNat + n) 4294967295 := by
  unfold satAdd
  split <;> simp <;> omega

/-! ### Values kept per write class -/

@[simp] theorem PerClass.get_modify_self {α : Type} (p : PerClass α) (c : WriteClass) (g : α → α) :
    (p.modify c g).get c = g (p.get c) := by
  cases c <;> rfl

theorem PerClass.get_modify_of_ne {α : Type} (p : PerClass α) {c d : WriteClass} (g : α → α) (h : d ≠ c) :
    (p.modify c g).get d = p.get d := by
  cases c <;> cases d <;> first | rfl | exact absurd rfl h

/-! ### Byte strings -/

@[simp] theorem be_length (w n : Nat) : (be w n).length = w := by
  induction w generalizing n with
  | zero => rfl
  | succ w ih => simp [be, ih]

@[simp] theorem beNat_nil : beNat [] = 0 := rfl

@[simp] theorem beNat_concat (bs : List Byte) (b : Byte) : beNat (bs ++ [b]) = beNat bs * 256 + b.toNat := by
  simp [beNat]

/-- Writing a number in `w` bytes and reading it back keeps it modulo 256 ^ w. -/
theorem beNat_be (w n : Nat) : beNat (be w n) = n % 256 ^ w := by
  induction w generalizing n with
  | zero => simp [be, Nat.mod_one]
  | succ w ih =>
    rw [be, beNat_concat, ih, Nat.pow_succ', Nat.mod_mul]
    simp; omega

/-- A field that stands between two byte strings is read as the number it was written from. -/
theorem field_be (pre post : List Byte) (w n : Nat) (h : n < 256 ^ w) :
    field pre.length w (pre ++ be w n ++ post) = n := by
  rw [field, slice, List.append_assoc, List.drop_left, List.take_left' (be_length w n), beNat_be,
    Nat.mod_eq_of_lt h]

/-- A field that stands behind a byte string is read from what follows the string. -/
theorem field_skip {l : List Byte} {off : Nat} (h : l.length ≤ off) (r : List Byte) (w : Nat) :
    field off w (l ++ r) = field (off - l.length) w r := by
  rw [field, field, slice, slice, List.drop_append, List.drop_of_length_le h, List.nil_append]

theorem field_skip_be {k off : Nat} (h : k ≤ off) (n : Nat) (r : List Byte) (w : Nat) :
    field off w (be k n ++ r) = field (off - k) w r := by
  rw [field_skip (by simpa using h), be_length]

/-- A field that ends before a byte string is read without it. -/
theorem field_left {l : List Byte} {off w : Nat} (h : off + w ≤ l.length) (r : List Byte) :
    field off w (l ++ r) = field off w l := by
  rw [field, field, slice, slice, List.drop_append_of_le_length (by omega),
    List.take_append_of_le_length (by simp; omega)]

/-- The number that a byte string opens with. -/
theorem field_here (w n : Nat) (r : List Byte) : field 0 w (be w n ++ r) = n % 256 ^ w := by
  rw [field, slice, List.drop_zero, List.take_left' (be_length w n), beNat_be]

theorem beNat_lt (l : List Byte) : beNat l < 256 ^ l.length := by
  induction l using List.reverseRecOn with
  | nil => simp
  | append_singleton l a ih =>
    have := a.isLt
    rw [beNat_concat]
    simp [Nat.pow_succ]; omega

/-- A field of `w` bytes is a number of `w` bytes. -/
theorem field_lt (off w : Nat) (d : List Byte) : field off w d < 256 ^ w :=
  Nat.lt_of_lt_of_le (beNat_lt _) (Nat.pow_le_pow_right (by omega) (by simp [slice]))

theorem optBytes_eq (w : Nat) (v : Option Nat) :
    optBytes w v = be 1 (if v.isSome then 1 else 0) ++ be w (v.getD 0) := by
  cases v <;> simp [optBytes] <;> rfl

@[simp] theorem optBytes_length (w : Nat) (x : Option Nat) : (optBytes w x).length = w + 1 := by
  cases x <;> simp [optBytes]

theorem configBytes_length (c : FeedConfig) : (configBytes c).length = 59 := by
  unfold configBytes
  simp only [List.length_append]
  simp only [be_length]
  simp only [optBytes_length, List.length_singleton]

/-! ### Notices and states -/

/-- A join that a notice formed now meets: the queue is full, no response waits, the request queue has
room for the request, and the join is the recorded one. -/
theorem joinMet_some {s : State} {j : Joined} (h : joinMet s = some j) :
    s.mu.joined = some j ∧ ¬s.mu.tx.length < 16 ∧ s.mu.waiting = none ∧ s.mu.requests.length < 8 := by
  unfold joinMet at h
  split at h
  · cases h
  · simp_all [txRoom]

/-- A notice meets no join, or is second to it, and nothing changes; or it is first, and the response has
not joined. -/
theorem yieldPlace_cases (s : State) :
    yieldPlace s = s ∨
      ∃ j, joinMet s = some j ∧ Config.noticeFirst s.mu.sent = true ∧ yieldPlace s = beforeJoin j s := by
  unfold yieldPlace
  cases h : joinMet s with
  | none => exact .inl rfl
  | some j => by_cases hn : Config.noticeFirst s.mu.sent = true <;> simp [hn]

/-- A notice with a destination joins the transmit queue, or is counted as unsent at a full one, or, while
a reset is due, is not formed. -/
theorem offerNotice_cases (dst : Addr) (k : NoticeKind) (i d : Nat) (s : State) :
    (s.mu.resetDue = true ∧ offerNotice dst k i d s = s) ∨
    (s.mu.resetDue = false ∧ ¬s.mu.tx.length < 16 ∧ offerNotice dst k i d s = countUnsent s) ∨
    (s.mu.resetDue = false ∧ s.mu.tx.length < 16 ∧
      offerNotice dst k i d s = pushTx ⟨dst, s.mu.address, s.wall, noticeBody k i d s.wall⟩ s) := by
  unfold offerNotice
  cases hr : s.mu.resetDue
  · by_cases hx : s.mu.tx.length < 16 <;> simp [txRoom, hx]
  · simp

/-- A notice has no destination and is counted as unsent (or, while a reset is due, is not formed), or is
offered for the notice destination once a join that it meets has yielded its place. -/
theorem notify_cases (k : NoticeKind) (i d : Nat) (s : State) :
    (s.mu.origins = [] ∧ notify k i d s = if s.mu.resetDue = true then s else countUnsent s) ∨
    (∃ dst rest, s.mu.origins = dst :: rest ∧
      notify k i d s = offerNotice dst k i d (yieldPlace s)) := by
  unfold notify
  cases ho : s.mu.origins with
  | nil => exact .inl ⟨rfl, rfl⟩
  | cons dst rest => exact .inr ⟨dst, rest, rfl, rfl⟩

/-- Writing a feed's state: that feed has it afterwards. -/
theorem setFeedState_state (f : FeedNo) (st : FeedState) (s : State) :
    ((setFeedState f st s).feed f).state = st := by
  unfold setFeedState
  split
  · assumption
  · simp

/-! ### The block pool -/

/-- A granted request of `n` blocks adds `n` to the occupancy. -/
theorem grantBlocks_occupancy (n : Nat) (s : State) :
    (grantBlocks n s).smc.occupancy = s.smc.occupancy + n := by
  unfold grantBlocks
  dsimp only
  split <;> simp [assertPressure]

/-- A return of `n` blocks takes `n` from the occupancy. -/
theorem returnBlocks_occupancy (n : Nat) (s : State) :
    (returnBlocks n s).smc.occupancy = s.smc.occupancy - n := by
  unfold returnBlocks
  dsimp only
  split
  · subst_vars; rfl
  · split <;> simp [releasePressure]

/-! ### Outcomes -/

/-- A step answers a next state: that of its effect, or the state itself while the reset line is
asserted. -/
theorem running_eq (g : State → State) (s : State) :
    running g s = .next (if s.resetLine = true then s else g s) := rfl

@[simp] theorem running_next {g : State → State} {s : State} (h : s.resetLine = false) :
    running g s = .next (g s) := by
  simp [running, h]

end Sys2Proof.Machine
end

