-- ==== Sys2Proof/Laws/Management.lean ====
section
/-! SUPPORT. What the shared operations that take a request, match a unit and choose a timed-out write do, each
said once. -/

namespace Sys2Proof.Machine

set_option Elab.async false

/-! ### Requests (R158, R159, R173) -/

/-- With the opening, a kind's body needs the bytes that R173 gives the kind. -/
theorem need_add_opening (r : Request) : 4 + (RequestKind.ofCode r.kind).need r.body = lengthOfKind r := by
  unfold lengthOfKind RequestKind.ofCode
  generalize r.kind.toNat = n
  by_cases h : n ≤ 18
  · interval_cases n <;> simp [RequestKind.need] <;> omega
  · obtain ⟨m, rfl⟩ : ∃ m, n = m + 19 := ⟨n - 19, by omega⟩
    rfl

/-- A request taken at an occasion of its kind is judged by its length, then by what its kind asks. -/
theorem take_ready {k : RequestKind} {r : Request} {rs : List Request} {s : State} (h : ReadyFor k r rs s)
    (g : List Byte → State → Reply) :
    take k g s =
      if r.body.length < k.need r.body then answer r false (.refused .badValue) (fixJoin s)
      else answer r (k == .resetDevice) (g r.body (fixJoin s)) (fixJoin s) := by
  obtain ⟨_, hw, hd, hq, hk⟩ := h
  simp [take, requestOf, hw, hd, hq, hk]

/-- A response that finds room joins the transmit queue, and its request leaves the request queue. -/
theorem respond_room {r : Request} {rs : List Request} {s : State} (hq : s.mu.requests = r :: rs)
    (hr : TxRoomFor 1 s) (hw : s.mu.waiting = none) (reset : Bool) (res : Result) (data : List Byte) :
    respond r reset res data (fixJoin s) =
      { responded r rs res data s with
        mu := { (responded r rs res data s).mu with resetDue := s.mu.resetDue || reset } } := by
  simp [respond, joinWaiting, fixJoin, txRoom, responded, responseTo, hq, hw,
    show s.mu.tx.length < 16 by omega]

/-- A request that is too short, or that its kind refuses, is answered so and changes nothing else. -/
theorem take_refused {k : RequestKind} {r : Request} {rs : List Request} {s : State} (h : ReadyFor k r rs s)
    (hr : TxRoomFor 1 s) {g : List Byte → State → Reply} {e : Result}
    (hg : (r.body.length < k.need r.body ∧ e = .badValue) ∨
      (k.need r.body ≤ r.body.length ∧ g r.body (fixJoin s) = .refused e)) :
    take k g s = responded r rs e [] s := by
  have hj := respond_room h.2.2.2.1 hr h.2.1 false e []
  have hd := h.2.2.1
  rw [take_ready h]
  rcases hg with ⟨hl, rfl⟩ | ⟨hl, hg⟩
  · rw [if_pos hl]; simp [answer, hj, hd, responded]
  · rw [if_neg (by omega), hg]; simp [answer, hj, hd, responded]

/-- The feed numbers that a byte string lists, where each is one. -/
theorem parseFeeds_some {l : List Byte} {seq : List FeedNo} (h : parseFeeds l = some seq) :
    l.map BitVec.toNat = seq.map Fin.val := by
  induction l generalizing seq with
  | nil => simp [parseFeeds] at h; subst h; rfl
  | cons a t ih =>
    unfold parseFeeds at h
    split at h
    · cases hp : parseFeeds t with
      | none => simp [hp] at h
      | some fs => simp [hp] at h; subst h; simp [ih hp]
    · cases h

/-! ### Matching (R25) -/

/-- No feed outside OFF holds the key. -/
theorem matchFeed_none {tag : BitVec 16} {src : Addr} {s : State}
    (h : ∀ f : FeedNo, ¬((s.feed f).state ≠ .off ∧ (s.feed f).cfg.tag = tag ∧ (s.feed f).cfg.origin = src)) :
    matchFeed tag src s = none := by
  unfold matchFeed
  rw [List.find?_eq_none]
  intro f _ hc
  exact h f (by simpa [and_assoc] using hc)

/-- Under distinct keys the feed that holds the key is the one matched. -/
theorem matchFeed_some {tag : BitVec 16} {src : Addr} {s : State} (hk : KeysDistinct s) {f : FeedNo}
    (h : (s.feed f).state ≠ .off ∧ (s.feed f).cfg.tag = tag ∧ (s.feed f).cfg.origin = src) :
    matchFeed tag src s = some f := by
  cases hm : matchFeed tag src s with
  | none =>
    unfold matchFeed at hm
    rw [List.find?_eq_none] at hm
    exact absurd (by simpa [and_assoc] using h) (hm f (by simp))
  | some g =>
    unfold matchFeed at hm
    have hg := List.find?_some hm
    simp [and_assoc] at hg
    by_contra hne
    exact hk f g (by rintro rfl; exact hne rfl) h.1 hg.1 ⟨by rw [h.2.1, hg.2.1], by rw [h.2.2, hg.2.2]⟩

/-! ### The timed-out write (R132) -/

theorem earliest_eq_none {l : List WriteEntry} (h : earliest l = none) : l = [] := by
  cases l with
  | nil => rfl
  | cons b u => unfold earliest at h; cases hu : earliest u <;> simp [hu] at h

/-- The earliest entry of a list stands in it, and none of the list was sent before it. -/
theorem earliest_eq_some {l : List WriteEntry} {x : WriteEntry} (h : earliest l = some x) :
    x ∈ l ∧ ∀ y ∈ l, sendOrder x ≤ sendOrder y := by
  induction l generalizing x with
  | nil => simp [earliest] at h
  | cons a t ih =>
    unfold earliest at h
    cases ht : earliest t with
    | none => simp [ht] at h; subst h; simp [earliest_eq_none ht]
    | some y =>
      simp [ht] at h
      obtain ⟨hm, hle⟩ := ih ht
      split at h <;> subst h
      · exact ⟨by simp [hm], by simp; exact ⟨by omega, hle⟩⟩
      · exact ⟨by simp, by simp; exact fun z hz => by have := hle z hz; omega⟩

/-- A write is timed out from its deadline on. -/
theorem timedOut_iff (s : State) (x : WriteEntry) :
    timedOut s x = true ↔ ∃ fl ∈ x.flight, ∃ sent ∈ fl.sendTime,
      1200 * s.sw.settings.ackTimeout ≤ (s.wall - sent).toNat := by
  unfold timedOut
  rcases x.flight with _ | ⟨_, _, _ | sent⟩
  · simp
  · simp
  · simp [elapsed, msTicks]
    exact decide_eq_true_iff

end Sys2Proof.Machine
end

