-- ==== Sys2Proof/WellFormed.lean ====
section
/-! DEFINITION. Which command terms stand for something a port can present: a frame operand holds at
least an Ethernet header (two addresses and a type, 14 bytes). Feed operands are in range by type. -/

namespace Sys2Proof

/-- The frame holds a destination address, a source address and a type field (R20, R21). -/
def EthFrame.hasHeader (f : EthFrame) : Bool := decide (14 ≤ f.bytes.length)

/-- A well-formed command. Only the four rows that carry a frame have a check. -/
def Instr.wellFormed : Instr → Bool
  | .contributionFrameReceived f => f.hasHeader
  | .writeAnswer f => f.hasHeader
  | .ready f => f.hasHeader
  | .storageForeignFrame f => f.hasHeader
  | _ => true

end Sys2Proof
end

