-- ==== Sys2Proof/Laws/PerInstr.lean ====
section
/-! SUPPORT. The family Form: what a command's term must hold to be well formed, one lemma for each
constructor of Instr. -/

namespace Sys2Proof.Laws.Form

set_option Elab.async false

/-- The Ethernet frames that a command carries. -/
def frames : Instr → List EthFrame
  | .contributionFrameReceived f => [f]
  | .writeAnswer f => [f]
  | .ready f => [f]
  | .storageForeignFrame f => [f]
  | _ => []

/-- A command is well formed exactly if each frame it carries holds an Ethernet header. -/
def Statement (i : Instr) : Prop := i.wellFormed = true ↔ ∀ f ∈ frames i, 14 ≤ f.bytes.length

theorem powerOnReset : Statement (.powerOnReset) := by
  simp [Statement, Instr.wellFormed, frames]

theorem contributionFrameReceived (f : EthFrame) : Statement (.contributionFrameReceived f) := by
  simp [Statement, Instr.wellFormed, frames, EthFrame.hasHeader]

theorem contributionCarrierLoss : Statement (.contributionCarrierLoss) := by
  simp [Statement, Instr.wellFormed, frames]

theorem contributionCarrierReturn : Statement (.contributionCarrierReturn) := by
  simp [Statement, Instr.wellFormed, frames]

theorem transmitFrameSent : Statement (.transmitFrameSent) := by
  simp [Statement, Instr.wellFormed, frames]

theorem faTakeUnit (feed : FeedNo) : Statement (.faTakeUnit feed) := by
  simp [Statement, Instr.wellFormed, frames]

theorem frameAdmission (feed : FeedNo) (kind : FrameKind) : Statement (.frameAdmission feed kind) := by
  simp [Statement, Instr.wellFormed, frames]

theorem contextExpiry : Statement (.contextExpiry) := by
  simp [Statement, Instr.wellFormed, frames]

theorem reorderHoldExpiry (feed : FeedNo) : Statement (.reorderHoldExpiry feed) := by
  simp [Statement, Instr.wellFormed, frames]

theorem pacingFill (feed : FeedNo) : Statement (.pacingFill feed) := by
  simp [Statement, Instr.wellFormed, frames]

theorem feedLost (feed : FeedNo) : Statement (.feedLost feed) := by
  simp [Statement, Instr.wellFormed, frames]

theorem periodExpiry : Statement (.periodExpiry) := by
  simp [Statement, Instr.wellFormed, frames]

theorem watchCheck : Statement (.watchCheck) := by
  simp [Statement, Instr.wellFormed, frames]

theorem stepEnd : Statement (.stepEnd) := by
  simp [Statement, Instr.wellFormed, frames]

theorem writeAnswer (f : EthFrame) : Statement (.writeAnswer f) := by
  simp [Statement, Instr.wellFormed, frames, EthFrame.hasHeader]

theorem ready (f : EthFrame) : Statement (.ready f) := by
  simp [Statement, Instr.wellFormed, frames, EthFrame.hasHeader]

theorem storageForeignFrame (f : EthFrame) : Statement (.storageForeignFrame f) := by
  simp [Statement, Instr.wellFormed, frames, EthFrame.hasHeader]

theorem lastPieceSent : Statement (.lastPieceSent) := by
  simp [Statement, Instr.wellFormed, frames]

theorem backoffEnd : Statement (.backoffEnd) := by
  simp [Statement, Instr.wellFormed, frames]

theorem ackTimeout : Statement (.ackTimeout) := by
  simp [Statement, Instr.wellFormed, frames]

theorem retiredIdFreed : Statement (.retiredIdFreed) := by
  simp [Statement, Instr.wellFormed, frames]

theorem linkLoss : Statement (.linkLoss) := by
  simp [Statement, Instr.wellFormed, frames]

theorem carrierReturn : Statement (.carrierReturn) := by
  simp [Statement, Instr.wellFormed, frames]

theorem storageHoldAsserted : Statement (.storageHoldAsserted) := by
  simp [Statement, Instr.wellFormed, frames]

theorem storageHoldReleased : Statement (.storageHoldReleased) := by
  simp [Statement, Instr.wellFormed, frames]

theorem setFeed : Statement (.setFeed) := by
  simp [Statement, Instr.wellFormed, frames]

theorem getFeed : Statement (.getFeed) := by
  simp [Statement, Instr.wellFormed, frames]

theorem enableFeed : Statement (.enableFeed) := by
  simp [Statement, Instr.wellFormed, frames]

theorem disableFeed : Statement (.disableFeed) := by
  simp [Statement, Instr.wellFormed, frames]

theorem stageFeed : Statement (.stageFeed) := by
  simp [Statement, Instr.wellFormed, frames]

theorem openClip : Statement (.openClip) := by
  simp [Statement, Instr.wellFormed, frames]

theorem closeClip : Statement (.closeClip) := by
  simp [Statement, Instr.wellFormed, frames]

theorem releaseClip : Statement (.releaseClip) := by
  simp [Statement, Instr.wellFormed, frames]

theorem getClip : Statement (.getClip) := by
  simp [Statement, Instr.wellFormed, frames]

theorem setStorage : Statement (.setStorage) := by
  simp [Statement, Instr.wellFormed, frames]

theorem setDevice : Statement (.setDevice) := by
  simp [Statement, Instr.wellFormed, frames]

theorem setWatch : Statement (.setWatch) := by
  simp [Statement, Instr.wellFormed, frames]

theorem getWatch : Statement (.getWatch) := by
  simp [Statement, Instr.wellFormed, frames]

theorem setOrigins : Statement (.setOrigins) := by
  simp [Statement, Instr.wellFormed, frames]

theorem getStatus : Statement (.getStatus) := by
  simp [Statement, Instr.wellFormed, frames]

theorem clearStatus : Statement (.clearStatus) := by
  simp [Statement, Instr.wellFormed, frames]

theorem getCounters : Statement (.getCounters) := by
  simp [Statement, Instr.wellFormed, frames]

theorem resetDevice : Statement (.resetDevice) := by
  simp [Statement, Instr.wellFormed, frames]

theorem unknownKindRequest : Statement (.unknownKindRequest) := by
  simp [Statement, Instr.wellFormed, frames]

theorem resetTakesEffect : Statement (.resetTakesEffect) := by
  simp [Statement, Instr.wellFormed, frames]

theorem resetLineAsserted : Statement (.resetLineAsserted) := by
  simp [Statement, Instr.wellFormed, frames]

end Sys2Proof.Laws.Form
end

