-- ==== Sys2Proof/Laws/Storage.lean ====
section
/-! SUPPORT. The frames of the Storage Writer's operations (Machine/Storage.lean). -/

namespace Sys2Proof.Machine

set_option Elab.async false

/-- What reportOk leaves as it was. -/
@[simp] theorem reportOk_frame (e : WriteEntry) (s : State) :
    (reportOk e s).wall = s.wall ∧ (reportOk e s).resetLine = s.resetLine ∧
    (reportOk e s).contribCarrier = s.contribCarrier ∧ (reportOk e s).storCarrier = s.storCarrier ∧
    (reportOk e s).holdLine = s.holdLine ∧ (reportOk e s).feeds = s.feeds ∧
    (reportOk e s).port = s.port ∧ (reportOk e s).handedUnits = s.handedUnits ∧
    (reportOk e s).handedFrames = s.handedFrames ∧ (reportOk e s).contexts = s.contexts ∧
    (reportOk e s).smc.level = s.smc.level ∧ (reportOk e s).smc.holdings = s.smc.holdings ∧
    (reportOk e s).smc.raises = s.smc.raises ∧ (reportOk e s).rings = s.rings ∧
    (reportOk e s).bu.durA = s.bu.durA ∧ (reportOk e s).bu.durB = s.bu.durB ∧
    (reportOk e s).bu.serial = s.bu.serial ∧ (reportOk e s).sw.settings = s.sw.settings ∧
    (reportOk e s).sw.retired = s.sw.retired ∧ (reportOk e s).sw.paused = s.sw.paused ∧
    (reportOk e s).sw.records = s.sw.records ∧ (reportOk e s).sw.stray = s.sw.stray ∧
    (reportOk e s).sw.readies = s.sw.readies ∧ (reportOk e s).sw.foreign = s.sw.foreign ∧
    (reportOk e s).sw.lastMessages = s.sw.lastMessages ∧ (reportOk e s).fw = s.fw ∧
    (reportOk e s).mu.origins = s.mu.origins ∧ (reportOk e s).mu.address = s.mu.address ∧
    (reportOk e s).mu.feedFlags = s.mu.feedFlags ∧
    (reportOk e s).mu.refusedOrigin = s.mu.refusedOrigin ∧
    (reportOk e s).mu.malformedRequests = s.mu.malformedRequests ∧
    (reportOk e s).mu.requestsDropped = s.mu.requestsDropped ∧
    (reportOk e s).mu.lastSent = s.mu.lastSent ∧ (reportOk e s).mu.sent = s.mu.sent ∧
    (reportOk e s).pending = s.pending ∧ (∀ z : FeedNo, (reportOk e s).feed z = s.feed z) ∧
    (∀ z : FeedNo, (reportOk e s).contextsOf z = s.contextsOf z) ∧
    (∀ z : FeedNo, (reportOk e s).ring z = s.ring z) ∧
    (∀ z : FeedNo, (reportOk e s).holding z = s.holding z) ∧
    (∀ z : FeedNo, (reportOk e s).flagsOf z = s.flagsOf z) ∧
    (∀ z : FeedNo, (reportOk e s).watchEntry z = s.watchEntry z) := by
  unfold reportOk; dsimp only; split <;> simp

/-- With no join to meet, what reportOk leaves of the requests and the waiting response. -/
@[simp] theorem reportOk_unmet (e : WriteEntry) (s : State) (hj : s.mu.joined = none) :
    (reportOk e s).mu.joined = none ∧ (reportOk e s).mu.requests = s.mu.requests ∧
    (reportOk e s).mu.waiting = s.mu.waiting ∧ (reportOk e s).mu.resetDue = s.mu.resetDue := by
  unfold reportOk; dsimp only; split <;> simp (maxDischargeDepth := 40) [hj]

/-- What failByAbort leaves as it was. -/
@[simp] theorem failByAbort_frame (e : WriteEntry) (s : State) :
    (failByAbort e s).wall = s.wall ∧ (failByAbort e s).resetLine = s.resetLine ∧
    (failByAbort e s).contribCarrier = s.contribCarrier ∧
    (failByAbort e s).storCarrier = s.storCarrier ∧ (failByAbort e s).holdLine = s.holdLine ∧
    (failByAbort e s).port = s.port ∧ (failByAbort e s).smc.level = s.smc.level ∧
    (failByAbort e s).smc.raises = s.smc.raises ∧ (failByAbort e s).bu.durA = s.bu.durA ∧
    (failByAbort e s).bu.durB = s.bu.durB ∧ (failByAbort e s).bu.serial = s.bu.serial ∧
    (failByAbort e s).sw.settings = s.sw.settings ∧ (failByAbort e s).sw.retired = s.sw.retired ∧
    (failByAbort e s).sw.paused = s.sw.paused ∧ (failByAbort e s).sw.stray = s.sw.stray ∧
    (failByAbort e s).sw.readies = s.sw.readies ∧ (failByAbort e s).sw.foreign = s.sw.foreign ∧
    (failByAbort e s).sw.lastMessages = s.sw.lastMessages ∧ (failByAbort e s).fw = s.fw ∧
    (failByAbort e s).mu.origins = s.mu.origins ∧ (failByAbort e s).mu.address = s.mu.address ∧
    (failByAbort e s).mu.refusedOrigin = s.mu.refusedOrigin ∧
    (failByAbort e s).mu.malformedRequests = s.mu.malformedRequests ∧
    (failByAbort e s).mu.requestsDropped = s.mu.requestsDropped ∧
    (failByAbort e s).mu.lastSent = s.mu.lastSent ∧ (failByAbort e s).mu.sent = s.mu.sent ∧
    (failByAbort e s).pending = s.pending ∧
    (∀ z : FeedNo, (failByAbort e s).watchEntry z = s.watchEntry z) := by
  unfold failByAbort; dsimp only; split <;> simp

/-- With no join to meet, what failByAbort leaves of the requests and the waiting response. -/
@[simp] theorem failByAbort_unmet (e : WriteEntry) (s : State) (hj : s.mu.joined = none) :
    (failByAbort e s).mu.joined = none ∧ (failByAbort e s).mu.requests = s.mu.requests ∧
    (failByAbort e s).mu.waiting = s.mu.waiting ∧ (failByAbort e s).mu.resetDue = s.mu.resetDue := by
  unfold failByAbort; dsimp only; split <;> simp (maxDischargeDepth := 40) [hj]

/-- What abortWrite leaves as it was. -/
@[simp] theorem abortWrite_frame (e : WriteEntry) (r : AbortReason) (s : State) :
    (abortWrite e r s).wall = s.wall ∧ (abortWrite e r s).resetLine = s.resetLine ∧
    (abortWrite e r s).contribCarrier = s.contribCarrier ∧
    (abortWrite e r s).storCarrier = s.storCarrier ∧ (abortWrite e r s).holdLine = s.holdLine ∧
    (abortWrite e r s).port = s.port ∧ (abortWrite e r s).smc.level = s.smc.level ∧
    (abortWrite e r s).smc.raises = s.smc.raises ∧ (abortWrite e r s).bu.durA = s.bu.durA ∧
    (abortWrite e r s).bu.durB = s.bu.durB ∧ (abortWrite e r s).bu.serial = s.bu.serial ∧
    (abortWrite e r s).sw.settings = s.sw.settings ∧ (abortWrite e r s).sw.retired = s.sw.retired ∧
    (abortWrite e r s).sw.paused = s.sw.paused ∧ (abortWrite e r s).sw.stray = s.sw.stray ∧
    (abortWrite e r s).sw.readies = s.sw.readies ∧ (abortWrite e r s).sw.foreign = s.sw.foreign ∧
    (abortWrite e r s).sw.lastMessages = s.sw.lastMessages ∧ (abortWrite e r s).fw = s.fw ∧
    (abortWrite e r s).mu.origins = s.mu.origins ∧ (abortWrite e r s).mu.address = s.mu.address ∧
    (abortWrite e r s).mu.refusedOrigin = s.mu.refusedOrigin ∧
    (abortWrite e r s).mu.malformedRequests = s.mu.malformedRequests ∧
    (abortWrite e r s).mu.requestsDropped = s.mu.requestsDropped ∧
    (abortWrite e r s).mu.lastSent = s.mu.lastSent ∧ (abortWrite e r s).mu.sent = s.mu.sent ∧
    (abortWrite e r s).pending = s.pending ∧
    (∀ z : FeedNo, (abortWrite e r s).watchEntry z = s.watchEntry z) := by
  unfold abortWrite; dsimp only; split <;> simp

/-- With no join to meet, what abortWrite leaves of the requests and the waiting response. -/
@[simp] theorem abortWrite_unmet (e : WriteEntry) (r : AbortReason) (s : State)
    (hj : s.mu.joined = none) :
    (abortWrite e r s).mu.joined = none ∧ (abortWrite e r s).mu.requests = s.mu.requests ∧
    (abortWrite e r s).mu.waiting = s.mu.waiting ∧
    (abortWrite e r s).mu.resetDue = s.mu.resetDue := by
  unfold abortWrite; dsimp only; split <;> simp (maxDischargeDepth := 40) [hj]

/-- What comeBack leaves as it was. -/
@[simp] theorem comeBack_frame (e : WriteEntry) (g : WriteEntry → WriteEntry) (s : State) :
    (comeBack e g s).wall = s.wall ∧ (comeBack e g s).resetLine = s.resetLine ∧
    (comeBack e g s).contribCarrier = s.contribCarrier ∧
    (comeBack e g s).storCarrier = s.storCarrier ∧ (comeBack e g s).holdLine = s.holdLine ∧
    (comeBack e g s).feeds = s.feeds ∧ (comeBack e g s).port = s.port ∧
    (comeBack e g s).handedUnits = s.handedUnits ∧ (comeBack e g s).handedFrames = s.handedFrames ∧
    (comeBack e g s).contexts = s.contexts ∧ (comeBack e g s).smc.level = s.smc.level ∧
    (comeBack e g s).smc.holdings = s.smc.holdings ∧ (comeBack e g s).smc.raises = s.smc.raises ∧
    (comeBack e g s).rings = s.rings ∧ (comeBack e g s).bu = s.bu ∧
    (comeBack e g s).sw.settings = s.sw.settings ∧ (comeBack e g s).sw.retired = s.sw.retired ∧
    (comeBack e g s).sw.paused = s.sw.paused ∧ (comeBack e g s).sw.stray = s.sw.stray ∧
    (comeBack e g s).sw.readies = s.sw.readies ∧ (comeBack e g s).sw.foreign = s.sw.foreign ∧
    (comeBack e g s).sw.lastMessages = s.sw.lastMessages ∧ (comeBack e g s).fw = s.fw ∧
    (comeBack e g s).mu.origins = s.mu.origins ∧ (comeBack e g s).mu.address = s.mu.address ∧
    (comeBack e g s).mu.feedFlags = s.mu.feedFlags ∧
    (comeBack e g s).mu.refusedOrigin = s.mu.refusedOrigin ∧
    (comeBack e g s).mu.malformedRequests = s.mu.malformedRequests ∧
    (comeBack e g s).mu.requestsDropped = s.mu.requestsDropped ∧
    (comeBack e g s).mu.lastSent = s.mu.lastSent ∧ (comeBack e g s).mu.sent = s.mu.sent ∧
    (comeBack e g s).pending = s.pending ∧ (∀ z : FeedNo, (comeBack e g s).feed z = s.feed z) ∧
    (∀ z : FeedNo, (comeBack e g s).contextsOf z = s.contextsOf z) ∧
    (∀ z : FeedNo, (comeBack e g s).ring z = s.ring z) ∧
    (∀ z : FeedNo, (comeBack e g s).holding z = s.holding z) ∧
    (∀ z : FeedNo, (comeBack e g s).flagsOf z = s.flagsOf z) ∧
    (∀ z : FeedNo, (comeBack e g s).watchEntry z = s.watchEntry z) := by
  unfold comeBack; dsimp only; split <;> simp

/-- With no join to meet, what comeBack leaves of the requests and the waiting response. -/
@[simp] theorem comeBack_unmet (e : WriteEntry) (g : WriteEntry → WriteEntry) (s : State)
    (hj : s.mu.joined = none) :
    (comeBack e g s).mu.joined = none ∧ (comeBack e g s).mu.requests = s.mu.requests ∧
    (comeBack e g s).mu.waiting = s.mu.waiting ∧ (comeBack e g s).mu.resetDue = s.mu.resetDue := by
  unfold comeBack; dsimp only; split <;> simp (maxDischargeDepth := 40) [hj]

/-- What failedAttempt leaves as it was. -/
@[simp] theorem failedAttempt_frame (e : WriteEntry) (b : Option Tick) (s : State) :
    (failedAttempt e b s).wall = s.wall ∧ (failedAttempt e b s).resetLine = s.resetLine ∧
    (failedAttempt e b s).contribCarrier = s.contribCarrier ∧
    (failedAttempt e b s).storCarrier = s.storCarrier ∧
    (failedAttempt e b s).holdLine = s.holdLine ∧ (failedAttempt e b s).port = s.port ∧
    (failedAttempt e b s).smc.level = s.smc.level ∧
    (failedAttempt e b s).smc.raises = s.smc.raises ∧ (failedAttempt e b s).bu.durA = s.bu.durA ∧
    (failedAttempt e b s).bu.durB = s.bu.durB ∧ (failedAttempt e b s).bu.serial = s.bu.serial ∧
    (failedAttempt e b s).sw.settings = s.sw.settings ∧
    (failedAttempt e b s).sw.retired = s.sw.retired ∧
    (failedAttempt e b s).sw.paused = s.sw.paused ∧ (failedAttempt e b s).sw.stray = s.sw.stray ∧
    (failedAttempt e b s).sw.readies = s.sw.readies ∧
    (failedAttempt e b s).sw.foreign = s.sw.foreign ∧
    (failedAttempt e b s).sw.lastMessages = s.sw.lastMessages ∧ (failedAttempt e b s).fw = s.fw ∧
    (failedAttempt e b s).mu.origins = s.mu.origins ∧
    (failedAttempt e b s).mu.address = s.mu.address ∧
    (failedAttempt e b s).mu.refusedOrigin = s.mu.refusedOrigin ∧
    (failedAttempt e b s).mu.malformedRequests = s.mu.malformedRequests ∧
    (failedAttempt e b s).mu.requestsDropped = s.mu.requestsDropped ∧
    (failedAttempt e b s).mu.lastSent = s.mu.lastSent ∧ (failedAttempt e b s).mu.sent = s.mu.sent ∧
    (failedAttempt e b s).pending = s.pending ∧
    (∀ z : FeedNo, (failedAttempt e b s).watchEntry z = s.watchEntry z) := by
  unfold failedAttempt; (repeat' split) <;> simp

/-- With no join to meet, what failedAttempt leaves of the requests and the waiting response. -/
@[simp] theorem failedAttempt_unmet (e : WriteEntry) (b : Option Tick) (s : State)
    (hj : s.mu.joined = none) :
    (failedAttempt e b s).mu.joined = none ∧ (failedAttempt e b s).mu.requests = s.mu.requests ∧
    (failedAttempt e b s).mu.waiting = s.mu.waiting ∧
    (failedAttempt e b s).mu.resetDue = s.mu.resetDue := by
  unfold failedAttempt; (repeat' split) <;> simp (maxDischargeDepth := 40) [hj]

/-- What takeBusy leaves as it was. -/
@[simp] theorem takeBusy_frame (e : WriteEntry) (s : State) :
    (takeBusy e s).wall = s.wall ∧ (takeBusy e s).resetLine = s.resetLine ∧
    (takeBusy e s).contribCarrier = s.contribCarrier ∧ (takeBusy e s).storCarrier = s.storCarrier ∧
    (takeBusy e s).holdLine = s.holdLine ∧ (takeBusy e s).port = s.port ∧
    (takeBusy e s).smc.level = s.smc.level ∧ (takeBusy e s).smc.raises = s.smc.raises ∧
    (takeBusy e s).bu.durA = s.bu.durA ∧ (takeBusy e s).bu.durB = s.bu.durB ∧
    (takeBusy e s).bu.serial = s.bu.serial ∧ (takeBusy e s).sw.settings = s.sw.settings ∧
    (takeBusy e s).sw.retired = s.sw.retired ∧ (takeBusy e s).sw.stray = s.sw.stray ∧
    (takeBusy e s).sw.readies = s.sw.readies ∧ (takeBusy e s).sw.foreign = s.sw.foreign ∧
    (takeBusy e s).sw.lastMessages = s.sw.lastMessages ∧ (takeBusy e s).fw = s.fw ∧
    (takeBusy e s).mu.origins = s.mu.origins ∧ (takeBusy e s).mu.address = s.mu.address ∧
    (takeBusy e s).mu.refusedOrigin = s.mu.refusedOrigin ∧
    (takeBusy e s).mu.malformedRequests = s.mu.malformedRequests ∧
    (takeBusy e s).mu.requestsDropped = s.mu.requestsDropped ∧
    (takeBusy e s).mu.lastSent = s.mu.lastSent ∧ (takeBusy e s).mu.sent = s.mu.sent ∧
    (takeBusy e s).pending = s.pending ∧
    (∀ z : FeedNo, (takeBusy e s).watchEntry z = s.watchEntry z) := by
  unfold takeBusy; dsimp only; split <;> simp (maxDischargeDepth := 40) [State.feed, State.clip, State.contextsOf, State.ring,
    State.holding, State.flagsOf, State.watchEntry]

/-- With no join to meet, what takeBusy leaves of the requests and the waiting response. -/
@[simp] theorem takeBusy_unmet (e : WriteEntry) (s : State) (hj : s.mu.joined = none) :
    (takeBusy e s).mu.joined = none ∧ (takeBusy e s).mu.requests = s.mu.requests ∧
    (takeBusy e s).mu.waiting = s.mu.waiting ∧ (takeBusy e s).mu.resetDue = s.mu.resetDue := by
  unfold takeBusy; dsimp only; split <;> simp (maxDischargeDepth := 40) [hj]

/-- What stampSendTime leaves as it was. -/
@[simp] theorem stampSendTime_frame (w : PortWrite) (s : State) :
    (stampSendTime w s).wall = s.wall ∧ (stampSendTime w s).resetLine = s.resetLine ∧
    (stampSendTime w s).contribCarrier = s.contribCarrier ∧
    (stampSendTime w s).storCarrier = s.storCarrier ∧ (stampSendTime w s).holdLine = s.holdLine ∧
    (stampSendTime w s).feeds = s.feeds ∧ (stampSendTime w s).port = s.port ∧
    (stampSendTime w s).handedUnits = s.handedUnits ∧
    (stampSendTime w s).handedFrames = s.handedFrames ∧ (stampSendTime w s).contexts = s.contexts ∧
    (stampSendTime w s).smc = s.smc ∧ (stampSendTime w s).rings = s.rings ∧
    (stampSendTime w s).placed = s.placed ∧ (stampSendTime w s).clips = s.clips ∧
    (stampSendTime w s).bu = s.bu ∧ (stampSendTime w s).sw.settings = s.sw.settings ∧
    (stampSendTime w s).sw.portQueue = s.sw.portQueue ∧ (stampSendTime w s).sw.late = s.sw.late ∧
    (stampSendTime w s).sw.lastUsed = s.sw.lastUsed ∧
    (stampSendTime w s).sw.retired = s.sw.retired ∧ (stampSendTime w s).sw.paused = s.sw.paused ∧
    (stampSendTime w s).sw.records = s.sw.records ∧
    (stampSendTime w s).sw.counters = s.sw.counters ∧ (stampSendTime w s).sw.stray = s.sw.stray ∧
    (stampSendTime w s).sw.readies = s.sw.readies ∧ (stampSendTime w s).sw.foreign = s.sw.foreign ∧
    (stampSendTime w s).sw.lastMessages = s.sw.lastMessages ∧ (stampSendTime w s).fw = s.fw ∧
    (stampSendTime w s).mu = s.mu ∧ (stampSendTime w s).nextSerial = s.nextSerial ∧
    (stampSendTime w s).pending = s.pending ∧
    (∀ z : FeedNo, (stampSendTime w s).feed z = s.feed z) ∧
    (∀ z : ClipNo, (stampSendTime w s).clip z = s.clip z) ∧
    (∀ z : FeedNo, (stampSendTime w s).contextsOf z = s.contextsOf z) ∧
    (∀ z : FeedNo, (stampSendTime w s).ring z = s.ring z) ∧
    (∀ z : FeedNo, (stampSendTime w s).holding z = s.holding z) ∧
    (∀ z : FeedNo, (stampSendTime w s).flagsOf z = s.flagsOf z) ∧
    (∀ z : FeedNo, (stampSendTime w s).watchEntry z = s.watchEntry z) := by
  unfold stampSendTime; (repeat' split) <;> simp

/-- What a run of makeReturn over a list leaves as it was. -/
@[simp] theorem makeReturn_foldl_frame (l : List (Nat × LateReturn)) (s : State) :
    (l.foldl (fun s x => makeReturn x.1 x.2 s) s).wall = s.wall ∧
    (l.foldl (fun s x => makeReturn x.1 x.2 s) s).resetLine = s.resetLine ∧
    (l.foldl (fun s x => makeReturn x.1 x.2 s) s).contribCarrier = s.contribCarrier ∧
    (l.foldl (fun s x => makeReturn x.1 x.2 s) s).storCarrier = s.storCarrier ∧
    (l.foldl (fun s x => makeReturn x.1 x.2 s) s).holdLine = s.holdLine ∧
    (l.foldl (fun s x => makeReturn x.1 x.2 s) s).feeds = s.feeds ∧
    (l.foldl (fun s x => makeReturn x.1 x.2 s) s).port = s.port ∧
    (l.foldl (fun s x => makeReturn x.1 x.2 s) s).handedUnits = s.handedUnits ∧
    (l.foldl (fun s x => makeReturn x.1 x.2 s) s).handedFrames = s.handedFrames ∧
    (l.foldl (fun s x => makeReturn x.1 x.2 s) s).contexts = s.contexts ∧
    (l.foldl (fun s x => makeReturn x.1 x.2 s) s).smc.level = s.smc.level ∧
    (l.foldl (fun s x => makeReturn x.1 x.2 s) s).smc.holdings = s.smc.holdings ∧
    (l.foldl (fun s x => makeReturn x.1 x.2 s) s).smc.raises = s.smc.raises ∧
    (l.foldl (fun s x => makeReturn x.1 x.2 s) s).rings = s.rings ∧
    (l.foldl (fun s x => makeReturn x.1 x.2 s) s).clips = s.clips ∧
    (l.foldl (fun s x => makeReturn x.1 x.2 s) s).bu = s.bu ∧
    (l.foldl (fun s x => makeReturn x.1 x.2 s) s).sw = s.sw ∧
    (l.foldl (fun s x => makeReturn x.1 x.2 s) s).fw = s.fw ∧
    (l.foldl (fun s x => makeReturn x.1 x.2 s) s).mu.origins = s.mu.origins ∧
    (l.foldl (fun s x => makeReturn x.1 x.2 s) s).mu.address = s.mu.address ∧
    (l.foldl (fun s x => makeReturn x.1 x.2 s) s).mu.feedFlags = s.mu.feedFlags ∧
    (l.foldl (fun s x => makeReturn x.1 x.2 s) s).mu.refusedOrigin = s.mu.refusedOrigin ∧
    (l.foldl (fun s x => makeReturn x.1 x.2 s) s).mu.malformedRequests = s.mu.malformedRequests ∧
    (l.foldl (fun s x => makeReturn x.1 x.2 s) s).mu.requestsDropped = s.mu.requestsDropped ∧
    (l.foldl (fun s x => makeReturn x.1 x.2 s) s).mu.lastSent = s.mu.lastSent ∧
    (l.foldl (fun s x => makeReturn x.1 x.2 s) s).mu.sent = s.mu.sent ∧
    (l.foldl (fun s x => makeReturn x.1 x.2 s) s).nextSerial = s.nextSerial ∧
    (l.foldl (fun s x => makeReturn x.1 x.2 s) s).pending = s.pending ∧
    (∀ z : FeedNo, (l.foldl (fun s x => makeReturn x.1 x.2 s) s).feed z = s.feed z) ∧
    (∀ z : ClipNo, (l.foldl (fun s x => makeReturn x.1 x.2 s) s).clip z = s.clip z) ∧
    (∀ z : FeedNo, (l.foldl (fun s x => makeReturn x.1 x.2 s) s).contextsOf z = s.contextsOf z) ∧
    (∀ z : FeedNo, (l.foldl (fun s x => makeReturn x.1 x.2 s) s).ring z = s.ring z) ∧
    (∀ z : FeedNo, (l.foldl (fun s x => makeReturn x.1 x.2 s) s).holding z = s.holding z) ∧
    (∀ z : FeedNo, (l.foldl (fun s x => makeReturn x.1 x.2 s) s).flagsOf z = s.flagsOf z) ∧
    (∀ z : FeedNo, (l.foldl (fun s x => makeReturn x.1 x.2 s) s).watchEntry z = s.watchEntry z) := by
  induction l generalizing s with
  | nil => simp
  | cons x xs ih => simp [ih]

/-- With no join to meet, what a run of makeReturn leaves of the requests and the waiting response. -/
@[simp] theorem makeReturn_foldl_unmet (l : List (Nat × LateReturn)) (s : State)
    (hj : s.mu.joined = none) :
    (l.foldl (fun s x => makeReturn x.1 x.2 s) s).mu.joined = none ∧
    (l.foldl (fun s x => makeReturn x.1 x.2 s) s).mu.requests = s.mu.requests ∧
    (l.foldl (fun s x => makeReturn x.1 x.2 s) s).mu.waiting = s.mu.waiting ∧
    (l.foldl (fun s x => makeReturn x.1 x.2 s) s).mu.resetDue = s.mu.resetDue := by
  induction l generalizing s with
  | nil => simp (maxDischargeDepth := 40) [hj]
  | cons x xs ih => simp (maxDischargeDepth := 40) [ih, hj]

/-- What a run of retire over a list leaves as it was. -/
@[simp] theorem retire_foldl_frame (l : List (BitVec 8)) (s : State) :
    (l.foldl (fun s id => retire id s) s).wall = s.wall ∧
    (l.foldl (fun s id => retire id s) s).resetLine = s.resetLine ∧
    (l.foldl (fun s id => retire id s) s).contribCarrier = s.contribCarrier ∧
    (l.foldl (fun s id => retire id s) s).storCarrier = s.storCarrier ∧
    (l.foldl (fun s id => retire id s) s).holdLine = s.holdLine ∧
    (l.foldl (fun s id => retire id s) s).feeds = s.feeds ∧
    (l.foldl (fun s id => retire id s) s).port = s.port ∧
    (l.foldl (fun s id => retire id s) s).handedUnits = s.handedUnits ∧
    (l.foldl (fun s id => retire id s) s).handedFrames = s.handedFrames ∧
    (l.foldl (fun s id => retire id s) s).contexts = s.contexts ∧
    (l.foldl (fun s id => retire id s) s).smc = s.smc ∧
    (l.foldl (fun s id => retire id s) s).rings = s.rings ∧
    (l.foldl (fun s id => retire id s) s).placed = s.placed ∧
    (l.foldl (fun s id => retire id s) s).clips = s.clips ∧
    (l.foldl (fun s id => retire id s) s).bu = s.bu ∧
    (l.foldl (fun s id => retire id s) s).sw.settings = s.sw.settings ∧
    (l.foldl (fun s id => retire id s) s).sw.queue = s.sw.queue ∧
    (l.foldl (fun s id => retire id s) s).sw.portQueue = s.sw.portQueue ∧
    (l.foldl (fun s id => retire id s) s).sw.late = s.sw.late ∧
    (l.foldl (fun s id => retire id s) s).sw.lastUsed = s.sw.lastUsed ∧
    (l.foldl (fun s id => retire id s) s).sw.paused = s.sw.paused ∧
    (l.foldl (fun s id => retire id s) s).sw.records = s.sw.records ∧
    (l.foldl (fun s id => retire id s) s).sw.counters = s.sw.counters ∧
    (l.foldl (fun s id => retire id s) s).sw.stray = s.sw.stray ∧
    (l.foldl (fun s id => retire id s) s).sw.readies = s.sw.readies ∧
    (l.foldl (fun s id => retire id s) s).sw.foreign = s.sw.foreign ∧
    (l.foldl (fun s id => retire id s) s).sw.lastMessages = s.sw.lastMessages ∧
    (l.foldl (fun s id => retire id s) s).fw = s.fw ∧
    (l.foldl (fun s id => retire id s) s).mu = s.mu ∧
    (l.foldl (fun s id => retire id s) s).nextSerial = s.nextSerial ∧
    (l.foldl (fun s id => retire id s) s).pending = s.pending ∧
    (∀ z : FeedNo, (l.foldl (fun s id => retire id s) s).feed z = s.feed z) ∧
    (∀ z : ClipNo, (l.foldl (fun s id => retire id s) s).clip z = s.clip z) ∧
    (∀ z : FeedNo, (l.foldl (fun s id => retire id s) s).contextsOf z = s.contextsOf z) ∧
    (∀ z : FeedNo, (l.foldl (fun s id => retire id s) s).ring z = s.ring z) ∧
    (∀ z : FeedNo, (l.foldl (fun s id => retire id s) s).holding z = s.holding z) ∧
    (∀ z : FeedNo, (l.foldl (fun s id => retire id s) s).flagsOf z = s.flagsOf z) ∧
    (∀ z : FeedNo, (l.foldl (fun s id => retire id s) s).watchEntry z = s.watchEntry z) := by
  induction l generalizing s with
  | nil => simp
  | cons x xs ih => simp [ih]

end Sys2Proof.Machine
end

