-- ==== Sys2Proof/Tests/Slice0.lean ====
section
/-! SUPPORT. Tests: the smoke test of WellFormed, values that the spec gives, one step for each family of
commands, and for each obligation with hypotheses a state and operands that meet them. Expected values
come from the spec's text, as each docstring says. -/

open Sys2Proof Sys2Proof.Machine

namespace Sys2Proof.Tests

set_option Elab.async false

/-! ### Helpers -/

/-- A unit with tag 0 and stamp `stamp` (R171), its check as R172 says. -/
def unitOf (cls : Nat) (flags : Byte) (stamp number : Nat) (payload : List Byte) : List Byte :=
  let head := be 1 cls ++ [flags] ++ be 2 0 ++ be 6 stamp ++ be 2 number ++ be 2 payload.length
  head ++ be 4 (crc32 (head ++ payload)).toNat ++ payload

/-- A frame of the transport type from a source address. -/
def frameFrom (src : Nat) (body : List Byte) : EthFrame :=
  ⟨true, be 6 0xFF ++ be 6 src ++ be 2 0x88D7 ++ body⟩

/-- One request waiting. -/
def asked (kind : BitVec 16) (body : List Byte) (s : State) : State :=
  { s with mu := { s.mu with requests := [⟨0x11, 7, kind, body⟩] } }

/-- That request. -/
def request (kind : BitVec 16) (body : List Byte) : Request := ⟨0x11, 7, kind, body⟩

/-- Feed 0 in a state. -/
def feedIn (st : FeedState) (s : State) : State := modFeed 0 (fun e => { e with state := st }) s

/-- Feed 0's handles left for clips. -/
def withHandles (s : State) : State :=
  modFeed 0 (fun e => { e with cfg := { e.cfg with handleCeiling := 100 } }) s

/-- The cursor of a clip that has placed three frames. -/
def cursor : Cursor := ⟨some (0, 0), 3, some 2, 300, 0, 0⟩

/-- Its open segment. -/
def segment : Segment := ⟨0, 0, 3, 0, 0, 300, [], 0, 0, [], []⟩

/-- Clip 0 in a state with that cursor and segment. -/
def clipIn (st : ClipState) (s : State) : State :=
  modClip 0 (fun _ => { Clip.freeRecord with
    state := st, origin := some 0, placed := 3, essence := 3, bytes := 300, openSeg := some segment,
    cursor := some cursor }) s

/-- Feed 0 records into clip 0. -/
def recording : State :=
  clipIn .recording (modFeed 0 (fun e => { e with state := .recording, clip := some 0 })
    (withHandles State.reset))

/-- A MEDIA frame of 100 bytes in one block. -/
def aFrame (stamp : Tick) (commit : Tick) : Frame :=
  ⟨stamp, .media, false, 100, 1, List.replicate 100 7, commit⟩

/-- A handed MEDIA unit of feed 0. -/
def aUnit (number : Nat) (last : Bool) (payload : List Byte) : HandedUnit :=
  ⟨0, 5, number, last, false, payload.length, payload, 0⟩

/-- A write of a class for clip 0, in flight under ID 9 with a send time. -/
def inAir (cls : WriteClass) (t : Option Tick) : WriteEntry :=
  ⟨0, cls, 0, 0, 1, 0, 1, .frame [7], 0, some ⟨9, 1, t⟩, none, true⟩

/-- A state whose window holds that write, with the peer at address 5. -/
def oneInAir (cls : WriteClass) (t : Option Tick) : State :=
  { State.reset with
    nextSerial := 2
    sw := { State.reset.sw with
      settings := { StorageSettings.default with peer := some 5 }
      queue := [inAir cls t], lastUsed := 9 } }

/-- A storage message from the peer at address 5. -/
def fromPeer (message : List Byte) : EthFrame := frameFrom 5 message

/-- The state after a command. -/
def after (c : Instr) (s : State) : State :=
  match exec c s with
  | .next t => t
  | _ => s

/-- The outcome is a next state. -/
def goesOn (o : Host.Outcome State Fault Refusal) : Bool :=
  match o with
  | .next _ => true
  | _ => false

/-- The wall counter at a tick. -/
def atTick (t : Nat) (s : State) : State := { s with wall := BitVec.ofNat 48 t }

/-- The result code of the last response in the transmit queue (R173): the fifth byte of its body. -/
def resultByte (s : State) : Option Byte := s.mu.tx.getLast?.bind (fun x => x.body[4]?)

/-- The data of the last response. -/
def responseData (s : State) : Option (List Byte) := s.mu.tx.getLast?.map (fun x => x.body.drop 5)

/-! ### WellFormed: an ill-formed term for each check -/

theorem test_wellFormed_received : (Instr.contributionFrameReceived ⟨true, []⟩).wellFormed = false := by
  decide

theorem test_wellFormed_writeAnswer :
    (Instr.writeAnswer ⟨true, List.replicate 13 0⟩).wellFormed = false := by decide

theorem test_wellFormed_ready : (Instr.ready ⟨false, []⟩).wellFormed = false := by decide

theorem test_wellFormed_storageForeign :
    (Instr.storageForeignFrame ⟨true, List.replicate 13 0⟩).wellFormed = false := by decide

theorem test_wellFormed_accepts :
    (Instr.ready ⟨true, List.replicate 14 0⟩).wellFormed = true ∧ Instr.stepEnd.wellFormed = true := by
  decide

/-! ### Values that the spec gives -/

/-- R172: the check of the nine ASCII bytes "123456789" is 0xCBF43926. -/
theorem test_crc :
    crc32 [0x31, 0x32, 0x33, 0x34, 0x35, 0x36, 0x37, 0x38, 0x39] = 0xCBF43926 := by decide +kernel

/-! ### Witnesses: hypotheses of the statements, met together -/

/-- A MEDIA frame for feed 0, which holds tag 0 and origin 0. -/
def mediaFrame : EthFrame := frameFrom 0 (unitOf 1 0x80 5 0 [1, 2, 3])

/-- The unit in it. -/
def mediaView : UnitView := unitView (unitOf 1 0x80 5 0 [1, 2, 3])

/-- A VOID frame for feed 0. -/
def voidFrame : EthFrame := frameFrom 0 (unitOf 2 0 5 0 [])

/-- The unit in it. -/
def voidView : UnitView := unitView (unitOf 2 0 5 0 [])

/-- A MGMT frame with a payload. -/
def mgmtFrame (payload : List Byte) : EthFrame := frameFrom 9 (unitOf 3 0 0 0 payload)

/-- The unit in it. -/
def mgmtView (payload : List Byte) : UnitView := unitView (unitOf 3 0 0 0 payload)

theorem witness_ResetLineAndCarrierGateThePart :
    ({ State.reset with contribCarrier := false }).contribCarrier = false ∧
      ({ State.reset with resetLine := true }).resetLine = true ∧
      Instr.stepEnd ∉ [Instr.powerOnReset, .resetLineAsserted, .contributionCarrierLoss,
        .contributionCarrierReturn, .linkLoss, .carrierReturn, .storageHoldAsserted,
        .storageHoldReleased] := by decide +kernel

theorem witness_ResetTakesEffectKeepsOnlyTheSettings :
    let s := { State.reset with mu := { State.reset.mu with resetDue := true } }
    s.resetLine = false ∧ s.mu.resetDue = true := by decide +kernel

/-- A command that is in none of the lists, and answers a next state. -/
theorem witness_EveryCommandLeavesWhatIsNotItsOwn :
    exec .stepEnd State.reset = .next State.reset ∧
      Instr.stepEnd ∉ [Instr.powerOnReset, .resetLineAsserted, .resetTakesEffect,
        .contributionCarrierLoss, .contributionCarrierReturn, .linkLoss, .carrierReturn,
        .storageHoldAsserted, .storageHoldReleased, .setOrigins, .setStorage, .setDevice, .setWatch,
        .setFeed, .getCounters] ∧
      ∀ fr : EthFrame, Instr.stepEnd ≠ .contributionFrameReceived fr :=
  ⟨rfl, by decide, nofun⟩

theorem witness_EveryReceivedFrameIsCountedOnce :
    Receiving State.reset ∧ (receiveCounters State.reset).length = 71 := by
  decide +kernel

/-- A witness for each way of FramesWithoutAUnitAreOnlyCounted: a bad frame check, 9,217 bytes with the
check, another type, another type behind a VLAN tag, 17 bytes of unit, and a payload one byte short. -/
theorem witness_FramesWithoutAUnitAreOnlyCounted :
    Receiving State.reset ∧
      classify ⟨false, mediaFrame.bytes⟩ = .damaged ∧
      classify ⟨true, List.replicate 9213 0⟩ = .damaged ∧
      classify ⟨true, List.replicate 9212 0⟩ = .foreign ∧
      classify ⟨true, be 12 0 ++ [0x81, 0, 0, 1, 8, 0] ++ be 40 0⟩ = .foreign ∧
      classify (frameFrom 0 (be 17 0)) = .truncated ∧
      classify (frameFrom 0 ((unitOf 1 0x80 5 0 [1, 2, 3]).dropLast)) = .truncated ∧
      classify ⟨true, be 12 0 ++ [0x81, 0, 0, 1, 0x88, 0xD7] ++ unitOf 1 0x80 5 0 [1, 2, 3]⟩ =
        .unit 0 mediaView := by
  decide +kernel

/-- A unit of three payload bytes in a frame from address 0, one of them changed on the way or not. -/
def unitFrame (cls : Nat) (damaged : Bool) : EthFrame :=
  let u := unitOf cls 0 5 0 [1, 2, 3]
  frameFrom 0 (if damaged then u.set 20 9 else u)

/-- Frames that hold a whole unit, each of a class and with its check as said; an entry that alone holds their
tag and source address, and all entries in OFF. -/
theorem witness_FramesWithoutAUnitAreOnlyCounted_units :
    (∀ cls ∈ [0, 1, 2, 3, 4], ∀ damaged ∈ [false, true],
      let fr := unitFrame cls damaged
      let body := fr.bytes.drop 14
      fr.fcsGood = true ∧ fr.bytes.length + 4 ≤ 9216 ∧ field 12 2 fr.bytes = 0x88D7 ∧
        body.length = 18 + field 12 2 body ∧ field 0 1 body = cls ∧
        ((crc32 (body.take 14 ++ (body.drop 18).take (field 12 2 body)) =
          BitVec.ofNat 32 (field 14 4 body)) ↔ damaged = false) ∧
        field 2 2 body = 0 ∧ field 6 6 fr.bytes = 0) ∧
      (Receiving State.reset ∧ ∀ f : FeedNo, (State.reset.feed f).state = .off) ∧
      let held := feedIn .idle State.reset
      Receiving held ∧ KeysDistinct held ∧ (held.feed 0).state ≠ .off ∧
        (held.feed 0).cfg.tag.toNat = 0 ∧ (held.feed 0).cfg.origin.toNat = 0 :=
  ⟨by decide +kernel, by decide +kernel, by decide +kernel⟩

theorem witness_RecognisedUnitsGoByStateAndThrottle :
    let throttle := fun s => modFeed 0 (fun e => { e with throttled := true }) s
    Recognised mediaFrame 0 mediaView 0 (feedIn .idle State.reset) ∧
      Recognised voidFrame 0 voidView 0 (feedIn .stalled State.reset) ∧
      Recognised mediaFrame 0 mediaView 0 (throttle (feedIn .recording State.reset)) ∧
      Recognised voidFrame 0 voidView 0 (throttle (feedIn .lost State.reset)) ∧
      Recognised voidFrame 0 voidView 0 (feedIn .lost State.reset) ∧
      Recognised mediaFrame 0 mediaView 0 recording ∧ Recognised voidFrame 0 voidView 0 recording ∧
      mediaView.cls = 1 ∧ voidView.cls = 2 := by
  decide +kernel

/-- Both ways out of LOST: a record opens, and none is asked for. -/
theorem witness_MediaUnitDecidesTheWayOutOfLost :
    let auto := modFeed 0 (fun e => { e with cfg := { e.cfg with autoResume := true } })
      (withHandles (feedIn .lost State.reset))
    Recognised mediaFrame 0 mediaView 0 auto ∧ (auto.feed 0).state = .lost ∧
      (auto.feed 0).throttled = false ∧ mediaView.cls = 1 ∧ openable 0 auto = some 0 ∧
      Recognised mediaFrame 0 mediaView 0 (feedIn .lost State.reset) := by
  decide +kernel

/-- A witness for each outcome: origin refused, a body of three bytes, a full queue, and a place. -/
theorem witness_ManagementUnitsPassTheThreeTests :
    let listed := { State.reset with mu := { State.reset.mu with origins := [8] } }
    let full := { State.reset with mu := { State.reset.mu with
      requests := List.replicate 8 ⟨0, 0, 0, []⟩ } }
    Receiving listed ∧ Receiving full ∧ Receiving State.reset ∧
      classify (mgmtFrame [0, 7, 0, 2]) = .unit 9 (mgmtView [0, 7, 0, 2]) ∧
      (mgmtView [0, 7, 0, 2]).passes = true ∧ (mgmtView [0, 7, 0, 2]).cls = 3 ∧
      classify (mgmtFrame [0, 7, 0]) = .unit 9 (mgmtView [0, 7, 0]) ∧
      (mgmtView [0, 7, 0]).passes = true ∧ (mgmtView [0, 7, 0]).cls = 3 := by
  decide +kernel

/-- The queue full with a response waiting and with none; a full queue for a notice, with no join to meet
and with that of a RESET DEVICE's DONE or of another response, whose seven successors fill the request
queue to one place; and no step due and no command waiting. -/
theorem witness_SentFrameLetsAWaitingResponseJoin :
    let x : TxFrame := ⟨1, 2, 3, [4]⟩
    let s := { State.reset with mu := { State.reset.mu with
      tx := List.replicate 16 x, waiting := some ⟨x, false⟩, origins := [9] } }
    let full := { s with mu := { s.mu with waiting := none } }
    (s.resetLine = false ∧ s.contribCarrier = true ∧ s.mu.tx = x :: List.replicate 15 x ∧
      s.mu.tx.length ≤ 16 ∧ s.mu.waiting.isSome = true) ∧
    (full.resetLine = false ∧ full.contribCarrier = true ∧ full.mu.tx = x :: List.replicate 15 x ∧
      full.mu.waiting = none ∧ full.holdLine = false ∧ full.mu.origins = [9] ∧
      full.mu.tx.length = 16 ∧ full.mu.joined = none ∧ full.mu.resetDue = false) ∧
    (∀ b ∈ [false, true],
      let j : Joined := ⟨⟨x, b⟩, request 15 []⟩
      let met := { full with mu := { full.mu with
        joined := some j, requests := List.replicate 7 (request 15 []), resetDue := b } }
      met.resetLine = false ∧ met.holdLine = false ∧ met.mu.origins = [9] ∧ met.mu.tx.length = 16 ∧
        met.mu.joined = some j ∧ met.mu.waiting = none ∧ met.mu.requests.length < 8 ∧
        met.mu.resetDue = j.response.reset) ∧
    State.reset.pending = [] ∧ dueCommand State.reset = none := by
  decide +kernel

theorem witness_SentFramesPassTheirOwnCheck :
    (⟨1, 2, 3, List.replicate 9180 7⟩ : TxFrame).body.length ≤ 9180 := List.length_replicate.le

/-- A unit that is not flagged as last and one that is, each already covered. -/
theorem witness_CoveredUnitIsADuplicate :
    let x : Context := ⟨5, 0, [(0, List.replicate 1024 7)], none, false, [0]⟩
    let u (last : Bool) (n : Nat) : HandedUnit := ⟨0, 5, 0, last, false, n, List.replicate n 7, 0⟩
    let s (u : HandedUnit) : State := { setContexts 0 [x]
      (modFeed 0 (fun e => { e with cfg := { e.cfg with unitSize := 1024 } }) recording) with
      handedUnits := [u] }
    Taking 0 (u false 1024) (s (u false 1024)) ∧ Taking 0 (u true 1) (s (u true 1)) ∧
      Taking 0 (u true 1024) (s (u true 1024)) ∧
      ((s (u true 1)).feed 0).cfg.unitSize = 1024 ∧
      ((s (u true 1)).contextsOf 0).find? (fun y => y.stamp == (u true 1).stamp) = some x ∧
      (u true 1).number ∈ x.units.map Prod.fst := by
  decide +kernel

/-- With the quota and the pool one block from full. -/
theorem witness_OneUnitFrameCommitsAtItsArrival :
    let u := aUnit 0 true [7]
    let s : State := { setHolding 0 1023 recording with handedUnits := [u] }
    let s : State := { s with smc := { s.smc with occupancy := 65535 } }
    Taking 0 u s ∧ u.number = 0 ∧ u.last = true ∧ 1 ≤ u.length ∧ u.length ≤ (s.feed 0).cfg.unitSize ∧
      (s.feed 0).cfg.unitSize ≤ 8192 ∧ (∀ x ∈ s.contextsOf 0, x.stamp ≠ u.stamp) ∧
      (s.contextsOf 0).length < 4 ∧ s.holding 0 + 1 ≤ (s.feed 0).cfg.quota ∧
      s.smc.occupancy < 65536 := by
  decide +kernel

/-- Feed 0, of units of 1,024 bytes, records, with some contexts, a holding and an occupancy, and a unit has
been handed on. -/
def taking (cs : List Context) (holding occupancy : Nat) (u : HandedUnit) : State :=
  let s := modFeed 0 (fun e => { e with cfg := { e.cfg with unitSize := 1024 } }) recording
  let s := setHolding 0 holding (setContexts 0 cs s)
  { s with smc := { s.smc with occupancy := occupancy }, handedUnits := [u] }

/-- A unit of stamp 5 and its stated length. -/
def ofLength (number : Nat) (last : Bool) (length : Nat) : HandedUnit :=
  ⟨0, 5, number, last, false, length, List.replicate length 7, 0⟩

/-- Lengths that R39 refuses, at the ends of its ranges. -/
theorem witness_OneUnitFrameCommitsAtItsArrival_length :
    ∀ u ∈ [ofLength 0 false 1023, ofLength 0 false 1025, ofLength 0 true 0, ofLength 0 true 1025],
      Taking 0 u (taking [] 0 0 u) ∧ ((taking [] 0 0 u).feed 0).cfg.unitSize = 1024 ∧
        ¬(if u.last then 1 ≤ u.length ∧ u.length ≤ 1024 else u.length = 1024) := by
  decide +kernel

/-- In an open context: a unit above the last one, a last unit below the highest, one beside another last
unit, a unit of a new block with the quota and the pool full and with one block left, and the unit that
completes coverage in a block already held. -/
theorem witness_OneUnitFrameCommitsAtItsArrival_context :
    let ended : Context := ⟨5, 0, [(0, [7]), (2, [7])], some (2, 5), false, [0]⟩
    let plain : Context := ⟨5, 0, [(0, [7]), (2, [7])], none, false, [0]⟩
    let open_ (x : Context) (h o : Nat) (u : HandedUnit) : Prop :=
      Taking 0 u (taking [x] h o u) ∧
        ((taking [x] h o u).contextsOf 0).find? (fun y => y.stamp == u.stamp) = some x ∧
        u.number ∉ x.units.map Prod.fst
    open_ ended 1 1 (ofLength 3 false 1024) ∧ open_ plain 1 1 (ofLength 1 true 9) ∧
      open_ ended 1 1 (ofLength 3 true 9) ∧ open_ ended 1 1 (ofLength 1 false 1024) ∧
      (∀ x ∈ [(1024, 1024), (1, 65536), (1023, 65535)],
        open_ plain x.1 x.2 (ofLength 64 false 1024) ∧
        (RoomFor 0 1 0 (taking [plain] x.1 x.2 (ofLength 64 false 1024)) ↔ x.1 = 1023)) := by
  decide +kernel

/-- Without a context: with three contexts and with four, with room at the last free block and without room
at quota and pool, the evicted context's block counted. -/
theorem witness_OneUnitFrameCommitsAtItsArrival_fresh :
    let old (n : Nat) : List Context :=
      (List.range n).map (fun i => ⟨BitVec.ofNat 48 (10 + i), 0, [(0, [7])], none, false, [0]⟩)
    let u := ofLength 0 false 1024
    ∀ n ∈ [3, 4], ∀ x ∈ [(1023, 65535), (1024, 65536), (1025, 65536)],
      let s := taking (old n) x.1 x.2 u
      Taking 0 u s ∧ (∀ y ∈ s.contextsOf 0, y.stamp ≠ u.stamp) ∧ (s.contextsOf 0).length = n ∧
        (RoomFor 0 1 (if n = 4 then 1 else 0) s ↔ x.1 = 1023 ∨ (n = 4 ∧ x.1 = 1024)) := by
  decide +kernel

theorem witness_ExpiredContextsAreAbandoned :
    let s := atTick 120000 (setContexts 0 [⟨5, 0, [], none, false, []⟩, ⟨6, 1, [], none, false, []⟩]
      recording)
    s.resetLine = false ∧ s.wall.toNat % 1200 = 0 ∧
      ((s.contextsOf 0).filter (fun x =>
        decide (1200 * (s.feed 0).cfg.asmTimeout ≤ (s.wall - x.first).toNat))).map (·.stamp) = [5] := by
  decide +kernel

/-- R59 and R60 with p = 48,000, at both ends of index 0, of index 2^32 - 1 and of the late range, and
across a wrap of the stamp. -/
theorem witness_PlacementIndexIsTheNearestGridPoint :
    indexOf 48000 100000 (100000 - 24001) = none ∧ indexOf 48000 100000 (100000 - 24000) = some 0 ∧
      indexOf 48000 100000 (100000 + 23999) = some 0 ∧ indexOf 48000 100000 (100000 + 24000) = some 1 ∧
      indexOf 10000 0 42949672954999 = some 4294967295 ∧ indexOf 10000 0 42949672955000 = none ∧
      indexOf 48000 (BitVec.allOnes 48) 47999 = some 1 ∧ jitter 48000 100000 (100000 - 24000) 0 = -24000 := by
  decide +kernel

/-- A frame of a kind, stamp and commit time has been handed on for feed 0, whose ring holds MEDIA frames at
some indices; D is 2. -/
def arriving (kind : FrameKind) (stamp commit : Nat) (ring : List Nat) (s : State) : State :=
  let e (n : Nat) : RingEntry := ⟨n, aFrame (BitVec.ofNat 48 (48000 * n)) 48000⟩
  let fr := { aFrame (BitVec.ofNat 48 stamp) (BitVec.ofNat 48 commit) with kind := kind }
  let s := modFeed 0 (fun e => { e with cfg := { e.cfg with depth := 2 } }) s
  atTick 48000 { setRing 0 (ring.map e) s with handedFrames := [⟨0, fr⟩] }

/-- The frame that `arriving` hands on. -/
def arrived (kind : FrameKind) (stamp commit : Nat) : Frame :=
  { aFrame (BitVec.ofNat 48 stamp) (BitVec.ofNat 48 commit) with kind := kind }

/-- `n` ESSENCE writes in flight. -/
def shareHolds (n : Nat) (s : State) : State :=
  { s with sw := { s.sw with queue := List.replicate n (inAir .essence none) } }

/-- A late stamp and an index below N, a duplicate index, and the two overruns: a head in queue-wait, and a
MEDIA contender at a full share. -/
theorem witness_PlacementIndexIsTheNearestGridPoint_discards :
    let late := arriving .media (2 ^ 48 - 24001) 0 [5, 6] recording
    let below := arriving .void (48000 * 2) 0 [5, 6] recording
    let twice := arriving .void (48000 * 5) 0 [5, 6] recording
    let wait := shareHolds 224 (arriving .void (48000 * 7) 0 [3, 6] recording)
    let low := shareHolds 224 (arriving .media (48000 * 4) 0 [5, 6] recording)
    Admitting 0 .media 0 cursor (arrived .media (2 ^ 48 - 24001) 0) late ∧ Settled late ∧
      indexOf 48000 0 (arrived .media (2 ^ 48 - 24001) 0).stamp = none ∧
      Admitting 0 .void 0 cursor (arrived .void (48000 * 2) 0) below ∧ Settled below ∧
      Admitting 0 .void 0 cursor (arrived .void (48000 * 5) 0) twice ∧ Settled twice ∧
      Admitting 0 .void 0 cursor (arrived .void (48000 * 7) 0) wait ∧ Settled wait ∧
      (wait.feed 0).cfg.depth ≤ (wait.ring 0).length ∧ shareUsed wait = 224 ∧
      Admitting 0 .media 0 cursor (arrived .media (48000 * 4) 0) low ∧ Settled low := by
  decide +kernel

/-- With one slot free, a frame behind the head and off-grid, and a new head with its hold to come. -/
theorem witness_PlacementIndexIsTheNearestGridPoint_admits :
    ∀ x ∈ [(48000 * 6 + 12001, 0, 6), (48000 * 4, 48000, 4)],
      let s := arriving .media x.1 x.2.1 [5] recording
      let fr := arrived .media x.1 x.2.1
      Admitting 0 .media 0 cursor fr s ∧ Settled s ∧ RingSound 0 s ∧
        indexOf (s.feed 0).cfg.period 0 fr.stamp = some x.2.2 ∧ cursor.next < x.2.2 ∧
        (∀ y ∈ s.ring 0, y.index ≠ x.2.2) ∧ (s.ring 0).length + 1 = (s.feed 0).cfg.depth ∧
        ((∃ y ∈ s.ring 0, y.index < x.2.2) ∨
          (s.wall - fr.commit).toNat < 1200 * (s.feed 0).cfg.hold) := by
  decide +kernel

/-- Feed 0 records and the next MEDIA frame on the grid has been handed on. -/
def nextOnGrid : State := { recording with handedFrames := [⟨0, aFrame 144000 0⟩] }

/-- The set of working values that closes the next segment at S = 4. -/
def closing (s : State) : State :=
  modClip 0 (fun k => { k with working := { k.working with segLen := 4 } }) s

/-- The clip limit reached with the next index, and the action there. -/
def limited (l : AtLimit) (s : State) : State :=
  modFeed 0 (fun e => { e with cfg := { e.cfg with clipLimit := some 4, atLimit := l } }) s

/-- A record store of `n` records, each waiting for a last piece. -/
def stored (n : Nat) (s : State) : State :=
  { s with sw := { s.sw with late := List.replicate n (9, .record) } }

/-- What every clause of MediaFrameAtTheNextIndexIsPlaced asks. -/
abbrev MediaNext (s : State) : Prop :=
  Recording 0 0 cursor segment s ∧ OnlyRing 0 s ∧ s.ring 0 = [] ∧ cursor.origin = some (0, 0) ∧
    nextFrame 0 .media s = some ⟨0, aFrame 144000 0⟩ ∧
    indexOf (s.feed 0).cfg.period 0 (aFrame 144000 0).stamp = some cursor.next ∧
    (s.clip 0).working.mode = .off ∧ 0 < (s.feed 0).cfg.depth ∧ shareUsed s < 224 ∧ s.bu.queue = []

/-- The first index of a segment that goes on, the one that fills it to S, with the last free place of the
record store and with none. -/
theorem witness_MediaFrameAtTheNextIndexIsPlaced_segments :
    MediaNext nextOnGrid ∧ segment.frames + 1 < (nextOnGrid.clip 0).working.segLen ∧
      cursor.next + 1 ≠ (limitOf (nextOnGrid.feed 0).cfg).1 ∧
      (∀ n ∈ [4095, 4096],
        let s := stored n (closing nextOnGrid)
        MediaNext s ∧ segment.frames + 1 = (s.clip 0).working.segLen ∧
          cursor.next + 1 ≠ (limitOf (s.feed 0).cfg).1 ∧ storeCount s = n ∧
          cursor.next = (s.clip 0).placed ∧ cursor.offset = (s.clip 0).bytes) := by
  decide +kernel

/-- The limit with STOP, with SPLIT into clip 1, and with SPLIT and no handles left. -/
theorem witness_MediaFrameAtTheNextIndexIsPlaced_limit :
    let bare := fun s => modFeed 0 (fun e => { e with cfg := { e.cfg with handleCeiling := 1 } }) s
    ∀ s ∈ [limited .stop nextOnGrid, limited .split nextOnGrid, bare (limited .split nextOnGrid)],
      MediaNext s ∧ segment.frames + 1 < (s.clip 0).working.segLen ∧
        cursor.next + 1 = (limitOf (s.feed 0).cfg).1 ∧ storeCount s < 4096 ∧
        ((limitOf (s.feed 0).cfg).2 = .stop ∨
          ((limitOf (s.feed 0).cfg).2 = .split ∧ (openable 0 s = some 1 ∨ openable 0 s = none))) := by
  decide +kernel

/-- A VOID frame at N, with the share full. -/
theorem witness_MediaFrameAtTheNextIndexIsPlaced_void :
    let s := shareHolds 224 (arriving .void 144000 0 [] recording)
    Recording 0 0 cursor segment s ∧ OnlyRing 0 s ∧ s.ring 0 = [] ∧ cursor.origin = some (0, 0) ∧
      nextFrame 0 .void s = some ⟨0, arrived .void 144000 0⟩ ∧
      indexOf (s.feed 0).cfg.period 0 (arrived .void 144000 0).stamp = some cursor.next ∧
      (s.clip 0).working.mode = .off ∧ 0 < (s.feed 0).cfg.depth ∧
      segment.frames + 1 < (s.clip 0).working.segLen ∧ segment.runs.length < 200 ∧
      cursor.next + 1 ≠ (limitOf (s.feed 0).cfg).1 := by
  decide +kernel

/-- Feed 0's clip as it stands in OPEN. -/
def opened : State :=
  modClip 0 (fun k => { k with
    state := .opened, origin := none, placed := 0, essence := 0, bytes := 0
    openSeg := some (newSegment 0 0 0 0 0), cursor := some (newCursor none k.working) }) recording

/-- The first frame of either kind of a clip in OPEN, with the last free entry of the share and with none. -/
theorem witness_MediaFrameAtTheNextIndexIsPlaced_origin :
    ∀ kind ∈ [FrameKind.media, .void], ∀ n ∈ [223, 224],
      let s := shareHolds n (arriving kind 99999 7 [] opened)
      let u := newCursor none (s.clip 0).working
      Admitting 0 kind 0 u (arrived kind 99999 7) s ∧ OnlyRing 0 s ∧ (s.clip 0).state = .opened ∧
        (s.clip 0).openSeg = some (newSegment 0 0 0 0 0) ∧ u.origin = none ∧ u.next = 0 ∧
        (s.clip 0).working.mode = .off ∧ 1 < (s.clip 0).working.segLen ∧
        (limitOf (s.feed 0).cfg).1 ≠ 1 ∧ s.bu.queue = [] ∧ shareUsed s = n := by
  decide +kernel

/-- A head of a kind at an index whose hold of 40 ms has just run out. -/
def holdOver (kind : FrameKind) (n : Nat) : State :=
  atTick 48000 (setRing 0 [⟨n, { aFrame 0 0 with kind := kind }⟩] recording)

/-- A gap of F = 25 before a MEDIA and before a VOID head, and a gap of 1. -/
theorem witness_ExpiredHoldFillsAGapWithinTheLimit :
    ∀ kind ∈ [FrameKind.media, .void], ∀ n ∈ [28, 4],
      let s := holdOver kind n
      let fr := { aFrame 0 0 with kind := kind }
      Recording 0 0 cursor segment s ∧ OnlyRing 0 s ∧ s.ring 0 = [⟨n, fr⟩] ∧
        s.wall.toNat % 1200 = 0 ∧ cursor.next < n ∧
        1200 * (s.feed 0).cfg.hold ≤ (s.wall - fr.commit).toNat ∧
        n - cursor.next ≤ (s.clip 0).working.fillLimit ∧ (s.clip 0).working.mode = .off ∧
        segment.frames + (n - cursor.next) + 1 < (s.clip 0).working.segLen ∧
        segment.runs.length + 2 ≤ 200 ∧ n + 1 < (limitOf (s.feed 0).cfg).1 ∧ shareUsed s < 224 ∧
        s.bu.queue = [] := by
  decide +kernel

/-- A full ring of two whose head is in hold: the arriving frame is the contender, at N and above it, and the
head is, each with the gap of 25 that F allows at most; and a gap of F + 1 with no handles left. -/
theorem witness_ExpiredHoldFillsAGapWithinTheLimit_cut :
    (∀ x ∈ [(3, 10, 12), (28, 30, 31), (31, 28, 30)],
      let s := arriving .media (48000 * x.1) 48000 [x.2.1, x.2.2] recording
      Recording 0 0 cursor segment s ∧
        nextFrame 0 .media s = some ⟨0, arrived .media (48000 * x.1) 48000⟩ ∧ OnlyRing 0 s ∧
        indexOf (s.feed 0).cfg.period 0 (arrived .media (48000 * x.1) 48000).stamp = some x.1 ∧
        (s.ring 0).length = (s.feed 0).cfg.depth ∧ (s.ring 0).map (·.index) = [x.2.1, x.2.2] ∧
        shareUsed s < 224 ∧ min x.1 x.2.1 - cursor.next ≤ (s.clip 0).working.fillLimit ∧
        (s.clip 0).working.mode = .off ∧ s.bu.queue = [] ∧
        segment.frames + 25 + 1 < (s.clip 0).working.segLen ∧
        min x.1 x.2.1 + 1 < (limitOf (s.feed 0).cfg).1 ∧
        ∀ y ∈ s.ring 0, (s.wall - y.frame.commit).toNat < 1200 * (s.feed 0).cfg.hold) ∧
    (let s := modFeed 0 (fun e => { e with cfg := { e.cfg with handleCeiling := 1 } })
      (arriving .media (48000 * 29) 48000 [30, 31] recording)
    Recording 0 0 cursor segment s ∧ OnlyRing 0 s ∧ (s.ring 0).length = (s.feed 0).cfg.depth ∧
      (s.clip 0).working.fillLimit < 29 - cursor.next ∧ openable 0 s = none ∧ storeCount s < 4096) := by
  decide +kernel

/-- Those rings of two are sound. -/
theorem witness_ExpiredHoldFillsAGapWithinTheLimit_ring :
    ∀ x ∈ [(3, 10, 12), (28, 30, 31), (31, 28, 30)],
      RingSound 0 (arriving .media (48000 * x.1) 48000 [x.2.1, x.2.2] recording) := by
  decide +kernel

/-- A gap of F + 1 = 26. -/
theorem witness_GapBeyondTheLimitStartsASuccessor :
    let s := holdOver .media 29
    let fr := aFrame 0 0
    Recording 0 0 cursor segment s ∧ OnlyRing 0 s ∧ s.ring 0 = [⟨29, fr⟩] ∧ s.wall.toNat % 1200 = 0 ∧
      cursor.next < 29 ∧ 1200 * (s.feed 0).cfg.hold ≤ (s.wall - fr.commit).toNat ∧
      (s.clip 0).working.fillLimit < 29 - cursor.next ∧ openable 0 s = some 1 ∧
      storeCount s + 2 ≤ 4096 ∧ 2 ≤ ((s.feed 0).pending.getD (s.feed 0).cfg.staged).segLen ∧
      2 ≤ (limitOf (s.feed 0).cfg).1 ∧ shareUsed s < 224 ∧ s.bu.queue = [] := by
  decide +kernel

/-- The target one below N, and at N. -/
theorem witness_PacingFillsUpToTheTarget :
    ∀ w ∈ [239999, 240000],
      let s := atTick w { recording with fw := { recording.fw with pacing := [0] } }
      let target : Int := (s.wall - 0).toInt / ((s.feed 0).cfg.period : Int) - ((s.feed 0).cfg.pacing : Int)
      Recording 0 0 cursor segment s ∧ (∀ h : FeedNo, s.ring h = []) ∧ (0 : FeedNo) ∈ s.fw.pacing ∧
        cursor.origin = some (0, 0) ∧ 0 ≤ (s.wall - 0).toInt ∧
        target = (if w = 240000 then 3 else 2) ∧ (s.clip 0).working.mode = .off ∧
        segment.frames + 1 < (s.clip 0).working.segLen ∧ segment.runs.length < 200 ∧
        cursor.next + 1 < (limitOf (s.feed 0).cfg).1 := by
  decide +kernel

/-- A segment of 400 frames whose fill-run list is full, its last run two positions before its end. -/
def crowded : Segment :=
  ⟨0, 0, 400, 0, 0, 0, (List.range 200).map (fun i => ⟨2 * i, 1, .rep⟩), 0, 0, [], []⟩

/-- The target at N = 400, where a 201st fill run would be needed. -/
theorem witness_PacingFillsUpToTheTarget_shortClose :
    let u : Cursor := ⟨some (0, 0), 400, some 399, 0, 0, 0⟩
    let s := modClip 0 (fun k => { k with
      placed := 400, essence := 200, repeats := 200, openSeg := some crowded, cursor := some u,
      working := { k.working with segLen := 1024 } }) recording
    let s := atTick (402 * 48000) { s with fw := { s.fw with pacing := [0] } }
    Recording 0 0 u crowded s ∧ (∀ h : FeedNo, s.ring h = []) ∧ (0 : FeedNo) ∈ s.fw.pacing ∧
      u.origin = some (0, 0) ∧ 0 ≤ (s.wall - 0).toInt ∧
      (s.wall - 0).toInt / ((s.feed 0).cfg.period : Int) - ((s.feed 0).cfg.pacing : Int) =
        (u.next : Int) ∧
      (s.clip 0).working.mode = .off ∧ crowded.runs.length = 200 ∧
      (∀ x ∈ crowded.runs.getLast?, ¬(x.kind = .rep ∧ x.start + x.count = crowded.frames)) ∧
      u.lastEssence.isSome = true ∧ storeCount s < 4096 ∧
      2 ≤ ((s.feed 0).pending.getD (s.clip 0).working).segLen ∧
      u.next + 1 < (limitOf (s.feed 0).cfg).1 := by
  decide +kernel

/-- The ways of OpenClipOpensTheLowestFreeRecord: not IDLE, a frame field of 25 at 25 frames a second,
handles one short, and an opening with the last handles. -/
theorem witness_OpenClipOpensTheLowestFreeRecord :
    let body : List Byte := [0, 1, 23, 59, 59, 24]
    let handles (n : Nat) := modFeed 0 (fun e =>
      { e with cfg := { e.cfg with handleCeiling := BitVec.ofNat 32 n } }) (feedIn .idle State.reset)
    ReadyFor .openClip (request 6 body) [] (asked 6 body State.reset) ∧
      ReadyFor .openClip (request 6 body) [] (asked 6 body (handles 1)) ∧
      ReadyFor .openClip (request 6 body) [] (asked 6 body (handles 2)) ∧
      TxRoomFor 3 (asked 6 body (handles 2)) ∧ 6 ≤ body.length ∧ field 0 1 body = (0 : FeedNo).val ∧
      labelValid 48000 (labelAt 2 body) = true ∧ labelValid 48000 (labelAt 2 [0, 1, 23, 59, 59, 25]) = false ∧
      openable 0 (handles 1) = none ∧ openable 0 (handles 2) = some 0 := by
  decide +kernel

/-- A clip of each kind of CloseClipEndsTheRecording, and the last clip number. -/
theorem witness_CloseClipEndsTheRecording :
    let s := asked 7 [0] recording
    ReadyFor .closeClip (request 7 [0]) [] s ∧ 1 ≤ (request 7 [0]).body.length ∧
      field 0 1 (request 7 [0]).body = (0 : ClipNo).val ∧ BeingPlaced (s.clip 0) ∧ (s.clip 0).feed = 0 ∧
      (s.feed 0).state = .recording ∧ (s.clip 0).openSeg = some segment ∧ storeCount s < 4096 ∧
      Settled s ∧
      ReadyFor .closeClip (request 7 [63]) [] (asked 7 [63] State.reset) ∧
      field 0 1 (request 7 [63]).body = (63 : ClipNo).val ∧
      ¬BeingPlaced ((asked 7 [63] State.reset).clip 63) ∧ TxRoomFor 1 (asked 7 [63] State.reset) := by
  decide +kernel

/-- A released record that stays FREE, one that a STALLED feed takes, one that a write holds, and one in
a state that refuses. -/
theorem witness_ReleaseClipFreesTheRecord :
    let plain := asked 8 [0] (clipIn .closed State.reset)
    let taken := asked 8 [0] (clipIn .failed (withHandles (feedIn .stalled State.reset)))
    let held := asked 8 [0] (clipIn .closed (oneInAir .browse none))
    let other := asked 8 [0] recording
    ReadyFor .releaseClip (request 8 [0]) [] plain ∧ ReadyFor .releaseClip (request 8 [0]) [] taken ∧
      ReadyFor .releaseClip (request 8 [0]) [] held ∧ ReadyFor .releaseClip (request 8 [0]) [] other ∧
      field 0 1 (request 8 [0]).body = (0 : ClipNo).val ∧ TxRoomFor 4 plain ∧ TxRoomFor 4 taken ∧
      TxRoomFor 4 held ∧ TxRoomFor 4 other ∧ (plain.clip 0).state = .closed ∧
      (taken.clip 0).state = .failed ∧ clipHeld 0 plain = false ∧ clipHeld 0 taken = false ∧
      clipHeld 0 held = true ∧ stalledTaker taken = some 0 ∧ (other.clip 0).state ≠ .closed ∧
      (other.clip 0).state ≠ .failed := by
  decide +kernel

theorem witness_RatioStepsPickOneIndexInEveryRatio : 1 ≤ 1 ∧ 1 ≤ 60 ∧ 59 < 60 := by decide

/-- A frame of a kind with the mark flag at N of a clip that browses, beside a step and waiting entries. -/
def picking (mode : BrowseMode) (kind : FrameKind) (step : Option RedStep) (waiting occupancy : Nat)
    (pressure : Bool) : State :=
  let s := modClip 0 (fun k => { k with working := { k.working with mode := mode } })
    (arriving kind 144000 0 [] recording)
  { s with
    handedFrames := [⟨0, { arrived kind 144000 0 with mark := kind == .media }⟩]
    nextSerial := 9
    placed := [⟨8, 100, 1, [], true, true⟩]
    smc := { s.smc with occupancy := occupancy, pressure := pressure }
    bu := { s.bu with step := step, queue := List.replicate waiting ⟨1, 2, 0, 0, 8, .a, 65536, false⟩ } }

/-- A pick of a RATIO and of a MARKED clip: served at an idle reducer, with blocks and without, and behind 63
entries, shed under PRESSURE and at 64 entries, and on a VOID fill; and a step that is no pick. -/
theorem witness_RatioStepsPickOneIndexInEveryRatio_placed :
    let busy : Option RedStep := some ⟨[⟨1, 2, 0, 0, 7, .a, 65536, false⟩], 90000⟩
    ∀ mode ∈ [BrowseMode.ratio, .marked, .off],
      ∀ s ∈ [picking mode .media none 0 65535 false, picking mode .media none 0 65536 false,
          picking mode .media busy 63 5 false, picking mode .media busy 5 5 true,
          picking mode .media busy 64 5 false, picking mode .void none 0 5 false],
        Recording 0 0 cursor segment s ∧ OnlyRing 0 s ∧ s.ring 0 = [] ∧
          (∃ h ∈ s.handedFrames, nextFrame 0 h.frame.kind s = some h ∧
            indexOf (s.feed 0).cfg.period 0 h.frame.stamp = some cursor.next) ∧
          0 < (s.feed 0).cfg.depth ∧ segment.frames + 1 < (s.clip 0).working.segLen ∧
          segment.runs.length < 200 ∧ segment.holes.length < 200 ∧
          cursor.next + 1 ≠ (limitOf (s.feed 0).cfg).1 ∧ shareUsed s < 224 ∧
          (s.bu.step.isSome ∨ s.bu.queue = []) ∧ (∀ x ∈ s.bu.queue, x.frame < s.nextSerial) ∧
          (∀ p ∈ s.placed, p.id < s.nextSerial) ∧
          (s.clip 0).working.bd ≤ cursor.acc + (s.clip 0).working.bn := by
  decide +kernel

/-- A reduction entry of clip 0. -/
def lane (frame pick : Nat) (discard : Bool) : Reduction := ⟨0, 0, 0, pick, frame, .a, 65536, discard⟩

/-- The placed frame of a lane, with its essence hold or without. -/
def laneFrame (frame : Nat) (essence : Bool) : PlacedFrame := ⟨frame, 100, 1, [], essence, true⟩

/-- A step of some lanes that has just ended, beside a write queue and waiting entries. -/
def stepOver (lanes : List Reduction) (essence : Bool) (queue : List WriteEntry)
    (waiting : List Reduction) (s : State) : State :=
  { s with
    bu := { s.bu with step := some ⟨lanes, s.wall⟩, queue := waiting }
    placed := (lanes ++ waiting).map (fun r => laneFrame r.frame essence)
    smc := { s.smc with occupancy := 5 }
    sw := { s.sw with queue := queue } }

/-- What every clause of StepEndDeliversShedsOrDiscards asks. -/
abbrev StepOver (x : Reduction) (ys : List Reduction) (essence : Bool) (s : State) : Prop :=
  s.resetLine = false ∧ s.bu.step = some ⟨x :: ys, s.wall⟩ ∧ 0 ≤ (s.wall - s.wall).toInt ∧ Settled s ∧
    (s.placed.map (·.id)).Nodup ∧ laneFrame x.frame essence ∈ s.placed ∧
    (laneFrame x.frame essence).id = x.frame ∧ (laneFrame x.frame essence).reductionHold = true

/-- A marked lane, a lane of a clip in OPEN, a lane to deliver with the last free entry, and a lane to
shed, each with the frame's essence hold and without. -/
theorem witness_StepEndDeliversShedsOrDiscards_oneLane :
    let full (n : Nat) := List.replicate n (inAir .browse none)
    ∀ essence ∈ [true, false],
      StepOver (lane 3 2 true) [] essence (stepOver [lane 3 2 true] essence [] [] recording) ∧
      StepOver (lane 3 2 false) [] essence (stepOver [lane 3 2 false] essence [] [] (clipIn .opened recording)) ∧
      (∀ n ∈ [223, 224],
        let s := stepOver [lane 3 2 false] essence (full n) [] recording
        StepOver (lane 3 2 false) [] essence s ∧ shareUsed s = n) ∧
      (recording.clip 0).state = .recording ∧ ((clipIn .opened recording).clip 0).state = .opened := by
  decide +kernel

/-- Steps of two lanes with two entries free and with one, and a step behind which two entries wait. -/
theorem witness_StepEndDeliversShedsOrDiscards_twoLanes :
    let full (n : Nat) := List.replicate n (inAir .browse none)
    let two := [lane 3 2 false, lane 4 3 false]
    let more := stepOver two false [] [lane 5 4 false, lane 6 5 false, lane 7 6 false] recording
    (∀ n ∈ [222, 223],
      let s := stepOver two true (full n) [] recording
      StepOver (lane 3 2 false) [lane 4 3 false] true s ∧ shareUsed s = n ∧ s.bu.queue = []) ∧
    StepOver (lane 3 2 false) [lane 4 3 false] false more ∧ more.bu.queue ≠ [] ∧
    ((more.bu.queue.take 2).map (fun r : Reduction => (r.outSize + 65535) / 65536)).sum ≤
      65536 - more.smc.occupancy ∧
    (lane 4 3 false).frame ≠ (lane 3 2 false).frame := by
  decide +kernel

/-- One byte, one whole piece, and one byte more. -/
theorem witness_PiecesCarryTheWholeWrite :
    let w (n : Nat) : PortWrite := ⟨0, 1, 9, 5, 6, 1, 0, n, .frame (List.replicate n 7)⟩
    ∀ n ∈ [1, 8192, 8193], 1 ≤ (w n).length ∧ ((w n).data.bytes (w n).length).length = (w n).length := by
  simp [WriteData.bytes]

/-! ### Witnesses: the Storage Writer -/

/-- An answer for write ID 9 with a result. -/
def answerFrame (result : Byte) : EthFrame := fromPeer [2, 9, result]

theorem witness_OkAnswerTakesTheWriteOut :
    let s := oneInAir .essence none
    AnswerFor (answerFrame 1) 1 (inAir .essence none) s ∧ (inAir .essence none).serial < s.nextSerial ∧
      (∀ h : FeedNo, s.ring h = []) :=
  ⟨⟨by decide +kernel, by decide +kernel, 9, by decide +kernel, by decide +kernel⟩, by decide +kernel⟩

/-- A closed segment of clip 0, final or not, whose INDEX write has been handed on. -/
def handedOn (final : Option EndReason) : ClosedSegment :=
  ⟨⟨0, 600, 601, 602, 48000, 65536, 0, 0, 0, 300, 0, 3, 0, final, [], []⟩, [], true⟩

/-- The INDEX write of a segment, answered. -/
def answering (st : ClipState) (closed : List ClosedSegment) : State :=
  modClip 0 (fun k => { k with closed := closed }) (clipIn st (oneInAir .index none))

/-- The INDEX write of a segment that is not the final one and of one that is, and of a failed clip. -/
theorem witness_OkAnswerTakesTheWriteOut_index :
    ∀ s ∈ [answering .draining [handedOn none], answering .draining [handedOn (some .stopped)],
        answering .failed []],
      s.resetLine = false ∧ s.storCarrier = true ∧
        classifyStorage s.sw.settings.peer (answerFrame 1) = .answer 9 1 ∧
        inFlight 9 s = some (inAir .index none) ∧ (inAir .index none).serial < s.nextSerial ∧
        (∀ h : FeedNo, s.ring h = []) ∧
        ((s.clip 0).state = .failed ∨ (s.clip 0).closed.length = 1) := by
  decide +kernel

/-- An ESSENCE write of a RECORDING clip. -/
theorem witness_FaultAnswerAbortsTheWrite :
    let s := clipIn .recording (oneInAir .essence none)
    AnswerFor (answerFrame 3) 3 (inAir .essence none) s ∧ (inAir .essence none).serial < s.nextSerial ∧
      ((s.clip 0).state = .draining → (s.clip 0).cursor = none) ∧ (s.clip 0).state = .recording :=
  ⟨⟨by decide +kernel, by decide +kernel, 9, by decide +kernel, by decide +kernel⟩, by decide +kernel⟩

theorem witness_BusyUnderWaitPausesTheClass :
    let s := oneInAir .index none
    AnswerFor (answerFrame 2) 2 (inAir .index none) s ∧ WindowSound s ∧
      s.sw.settings.policy.get .index = .wait ∧ (s.clip 0).state ≠ .failed ∧ Settled s :=
  ⟨⟨by decide +kernel, by decide +kernel, 9, by decide +kernel, by decide +kernel⟩, by decide +kernel⟩

/-- One write in the window under a policy and a retry limit, whose clip is in a state. -/
def refused (p : BusyPolicy) (limit : Nat) (st : ClipState) (full : Bool) : State :=
  let s := oneInAir .essence none
  modClip 0 (fun k => { k with state := st, storeFailed := full })
    { s with sw := { s.sw with settings := { s.sw.settings with
        policy := ⟨p, p, p⟩, retry := ⟨limit, limit, limit⟩ } } }

/-- BUSY under RETRY one below the limit and at it, and under SHED, of a clip in DRAINING; and under WAIT and
RETRY of a clip that failed by an abort or by a full record store. -/
theorem witness_BusyUnderWaitPausesTheClass_others :
    ∀ s ∈ [refused .retry 1 .draining false, refused .retry 0 .draining false,
        refused .shed 3 .draining false, refused .wait 3 .failed false, refused .retry 1 .failed true],
      AnswerFor (answerFrame 2) 2 (inAir .essence none) s ∧ WindowSound s ∧ Settled s ∧
        (∀ h : FeedNo, s.ring h = []) ∧ (s.clip 0).cursor = none ∧
        ((s.clip 0).state = .draining ∨ (s.clip 0).state = .failed) := by
  intro s hs
  have h : s.resetLine = false ∧ s.storCarrier = true ∧
      classifyStorage s.sw.settings.peer (answerFrame 2) = .answer 9 2 ∧
      inFlight 9 s = some (inAir .essence none) ∧ WindowSound s ∧ Settled s ∧
      (∀ h : FeedNo, s.ring h = []) ∧ (s.clip 0).cursor = none ∧
      ((s.clip 0).state = .draining ∨ (s.clip 0).state = .failed) := by
    revert s; decide +kernel
  exact ⟨⟨h.1, h.2.1, 9, h.2.2.1, h.2.2.2.1⟩, h.2.2.2.2⟩

/-- An answer for another ID, an answer whose result is none of the three, and frames of a failed check,
above 9,216 bytes, of another source, of another type plain and behind a VLAN tag, of another kind byte, of
none, and of a WRITE-ANSWER of two bytes. -/
theorem witness_StrayAndForeignStorageFramesAreOnlyCounted :
    let s := oneInAir .essence none
    let kind (body : List Byte) := ((fromPeer body).bytes.drop 14).head?
    s.resetLine = false ∧ s.storCarrier = true ∧
      classifyStorage s.sw.settings.peer (fromPeer [2, 8, 1]) = .answer 8 1 ∧ inFlight 8 s = none ∧
      classifyStorage s.sw.settings.peer (answerFrame 4) = .answer 9 4 ∧
      classifyStorage s.sw.settings.peer (answerFrame 0) = .answer 9 0 ∧
      ({ answerFrame 1 with fcsGood := false }).fcsGood = false ∧
      9216 < (fromPeer (List.replicate 9199 2)).bytes.length + 4 ∧
      s.sw.settings.peer ≠ some (frameSource (frameFrom 6 [3])) ∧
      field 12 2 (be 12 5 ++ be 2 0x0800 ++ [2, 9, 1]) = 0x0800 ∧
      field 16 2 (be 12 5 ++ [0x81, 0, 0, 1, 8, 0, 2, 9, 1]) = 0x0800 ∧
      kind [4, 9, 1] = some 4 ∧ kind [] = none ∧ kind [2, 9] = some 2 ∧
      ((fromPeer [2, 9]).bytes.drop 14).length < 3 := by
  decide +kernel

/-- READY with a class paused, and with none while the hold line is asserted, 16 writes are in the window, no
write is to be sent, or no ID is free. -/
theorem witness_ReadyClearsEveryPause :
    let s := oneInAir .essence none
    let p := { s with sw := { s.sw with paused := ⟨true, false, true⟩ } }
    s.resetLine = false ∧ s.storCarrier = true ∧ p.storCarrier = true ∧
      classifyStorage p.sw.settings.peer (fromPeer [3]) = .ready ∧
      s.sw.paused = ⟨false, false, false⟩ ∧ sendChoice s = none ∧
      (let e : WriteEntry := { inAir .essence none with serial := 1, flight := none }
        let q (n : Nat) := { s with sw := { s.sw with
          queue := List.replicate n (inAir .essence none) ++ [e] } }
        let taken := { q 0 with sw := { (q 0).sw with
          retired := (List.range 256).map (fun i => ⟨BitVec.ofNat 8 i, 0, 50⟩) } }
        sendChoice (q 16) = some e ∧ (window (q 16)).length = 16 ∧
          sendChoice taken = some e ∧ nextId taken = none ∧ taken.sw.paused = ⟨false, false, false⟩ ∧
          { q 0 with holdLine := true }.holdLine = true) := by
  decide +kernel

/-- A write leaving the port, in flight by the send of its pieces. -/
def leaving : State :=
  let s := oneInAir .essence none
  { s with sw := { s.sw with portQueue := [⟨0, 1, 9, 5, 6, 1, 0, 1, .frame [7]⟩] } }

theorem witness_LastPieceFixesTheSendTime :
    leaving.resetLine = false ∧ leaving.storCarrier = true ∧
      leaving.sw.portQueue = [⟨0, 1, 9, 5, 6, 1, 0, 1, .frame [7]⟩] := by
  decide +kernel

/-- Two backoffs that end at this tick, and an ID retired 50 ms ago. -/
theorem witness_BackoffsAndRetirementsEndOnTime :
    let e : WriteEntry := { inAir .essence none with flight := none, backoffEnd := some 60000 }
    let s := atTick 60000 { State.reset with sw := { State.reset.sw with
      queue := [e, { e with serial := 1 }], retired := [⟨9, 0, 50⟩] } }
    s.resetLine = false ∧ s.wall.toNat % 1200 = 0 ∧
      s.sw.queue.find? (fun x => x.backoffEnd.any (fun b => decide (0 ≤ (s.wall - b).toInt))) = some e ∧
      s.sw.retired.find? (fun y =>
        decide (0 ≤ (s.wall - (y.since + BitVec.ofNat 48 (1200 * y.timeout))).toInt)) =
          some ⟨9, 0, 50⟩ := by
  decide +kernel

/-- At 50 ms, the write sent at 0 behind an entry that was sent after it, at 0 too. -/
def bothOut (cls : WriteClass) (hold : Bool) (st : ClipState) : State :=
  let later : WriteEntry := { inAir cls (some 0) with serial := 1, flight := some ⟨8, 2, some 0⟩ }
  let s := clipIn st (atTick 60000 (oneInAir cls (some 0)))
  { s with holdLine := hold, sw := { s.sw with queue := [later, inAir cls (some 0)] } }

/-- Below its retry limit (ESSENCE, 3) and at it (BROWSE, 0), with the hold line asserted and released, and
below the limit a write of a failed clip. -/
theorem witness_TimedOutWriteRetiresItsId :
    ∀ x ∈ [(WriteClass.essence, true, ClipState.draining), (.essence, false, .draining),
        (.browse, false, .draining), (.essence, false, .failed)],
      let e := inAir x.1 (some 0)
      let s := bothOut x.1 x.2.1 x.2.2
      s.resetLine = false ∧ s.wall.toNat % 1200 = 0 ∧ e ∈ s.sw.queue ∧ e.flight = some ⟨9, 1, some 0⟩ ∧
        1200 * s.sw.settings.ackTimeout ≤ (s.wall - 0).toNat ∧
        s.sw.queue.filter (fun y => y != e) = [{ e with serial := 1, flight := some ⟨8, 2, some 0⟩ }] ∧
        (e.attempts < s.sw.settings.retry.get e.cls ↔ x.1 = .essence) ∧ (s.clip e.clip).state = x.2.2 ∧
        s.holdLine = x.2.1 ∧ Settled s ∧ (s.sw.queue.map (·.serial)).Nodup ∧
        (∀ y ∈ s.sw.queue, y.serial < s.nextSerial) ∧ (window s).length = 2 ∧ (windowIds s).Nodup := by
  decide +kernel

/-- Between two steps, at the step before the deadline, and with a write whose last piece has not left. -/
theorem witness_TimedOutWriteRetiresItsId_early :
    let s := atTick 58800 (oneInAir .essence (some 0))
    (atTick 60001 State.reset).wall.toNat % 1200 ≠ 0 ∧
      s.resetLine = false ∧ s.wall.toNat % 1200 = 0 ∧ s.sw.queue = [inAir .essence (some 0)] ∧
      (s.wall - 0).toNat < 1200 * s.sw.settings.ackTimeout ∧
      (oneInAir .essence none).sw.queue.map (fun x => x.flight.bind (·.sendTime)) = [none] := by
  decide +kernel

/-- The window's write is of a clip that has not failed, and of one that has. -/
theorem witness_LinkLossReturnsTheWindow :
    let s := oneInAir .essence none
    let failed := modClip 0 (fun k => { k with state := .failed }) s
    s.resetLine = false ∧ s.storCarrier = true ∧ windowIds s = [9] ∧ WindowSound s ∧
      (∀ h : FeedNo, s.ring h = []) ∧ (s.clip 0).state ≠ .failed ∧
      inAir .essence none ∈ window failed ∧ WindowSound failed ∧ (failed.clip 0).state = .failed ∧
      failed.storCarrier = true := by
  decide +kernel

theorem witness_StorageLinesRaiseTheirFlags :
    State.reset.resetLine = false ∧ ({ State.reset with storCarrier := false }).storCarrier = false ∧
      State.reset.holdLine = false ∧ ({ State.reset with holdLine := true }).holdLine = true := by
  decide +kernel

/-! ### Witnesses: Feed Watch -/

/-- A watch period that expires now. -/
def expiring (seq : List FeedNo) : State :=
  atTick 12000 { State.reset with fw := { State.reset.fw with
    period := 1, nextExpiry := 12000, sequence := seq } }

theorem witness_PeriodExpiryStartsASweep :
    ∀ seq ∈ [[], [(0 : FeedNo)]],
      let s := expiring seq
      s.resetLine = false ∧ s.fw.period ≠ 0 ∧ s.fw.sweep = none ∧
        0 ≤ (s.wall - s.fw.nextExpiry).toInt := by
  decide +kernel

/-- A sweep whose next feed is 0. -/
def sweeping (s : State) : State := { s with fw := { s.fw with sweep := some ⟨12000, [0, 5]⟩ } }

theorem witness_WatchCheckJudgesOneFeed :
    (sweeping State.reset).resetLine = false ∧
      (sweeping State.reset).fw.sweep = some ⟨12000, [0, 5]⟩ ∧
      ((sweeping State.reset).feed 0).state = .off ∧ (sweeping recording).resetLine = false ∧
      (sweeping recording).fw.sweep = some ⟨12000, [0, 5]⟩ ∧ ((sweeping recording).feed 0).state ≠ .off := by
  decide +kernel

/-- A loss handed on for a RECORDING feed, and for one that has left RECORDING. -/
theorem witness_LossOfAFeedEndsItsClip :
    let s := { recording with fw := { recording.fw with losses := [0] } }
    let idle := { State.reset with fw := { State.reset.fw with losses := [0] } }
    s.resetLine = false ∧ (0 : FeedNo) ∈ s.fw.losses ∧ Settled s ∧ (s.feed 0).state = .recording ∧
      (s.feed 0).clip = some 0 ∧ (s.clip 0).cursor = some cursor ∧ (s.clip 0).openSeg = some segment ∧
      storeCount s < 4096 ∧ idle.resetLine = false ∧ (0 : FeedNo) ∈ idle.fw.losses ∧ Settled idle ∧
      (idle.feed 0).state ≠ .recording := by
  decide +kernel

/-! ### Witnesses: management -/

/-- A transmit queue with room, and a full one. -/
theorem witness_EveryRequestIsAnsweredOnce :
    let full := { State.reset with mu := { State.reset.mu with tx := List.replicate 16 ⟨1, 2, 3, []⟩ } }
    RequestKind.ofCode (request 15 []).kind = .getStatus ∧
      ReadyFor .getStatus (request 15 []) [] (asked 15 [] State.reset) ∧
      MuBounded (asked 15 [] State.reset) ∧
      ReadyFor .getStatus (request 15 []) [] (asked 15 [] full) ∧ MuBounded (asked 15 [] full) := by
  decide +kernel

/-- The MU is about to take a request of this kind value and body. -/
def asks (kind : BitVec 16) (body : List Byte) : Bool :=
  decide (ReadyFor (RequestKind.ofCode kind) (request kind body) [] (asked kind body State.reset) ∧
    MuBounded (asked kind body State.reset))

/-- Request kinds whose body has one length, each with a length one below it. -/
def shortLengths : List (BitVec 16 × Nat) :=
  [(0x01, 59), (0x02, 0), (0x03, 0), (0x04, 0), (0x05, 6), (0x06, 5), (0x07, 0), (0x08, 0), (0x09, 0),
    (0x0A, 20), (0x0B, 2), (0x10, 35), (0x11, 2)]

/-- A body one byte short of each kind that needs one, a SET WATCH of two feeds and a SET ORIGINS of one address
among them. -/
theorem witness_EveryRequestIsAnsweredOnce_short :
    (∀ x ∈ shortLengths, asks x.1 (List.replicate x.2 0) = true ∧
      5 + x.2 = lengthOfKind (request x.1 (List.replicate x.2 0))) ∧
      asks 0x0C [1, 2, 0] = true ∧ lengthOfKind (request 0x0C [1, 2, 0]) = 8 ∧
      asks 0x0E (1 :: List.replicate 11 0) = true ∧ lengthOfKind (request 0x0E (1 :: List.replicate 11 0)) = 17 := by
  decide +kernel

/-- Kind values on both sides of the table of R173, and the scope and feed bytes of a GET COUNTERS one above
their ranges. -/
theorem witness_EveryRequestIsAnsweredOnce_checks :
    asks 0x00 [] = true ∧ asks 0x13 [] = true ∧ asks 0x81 [] = true ∧
      asks 0x11 [2, 0, 0] = true ∧ asks 0x11 [1, 32, 0] = true ∧ field 1 1 [1, 32, 0] = 32 := by
  decide +kernel

/-- Feed number 32 and clip number 64, in each kind that names one. -/
theorem witness_EveryRequestIsAnsweredOnce_numbers :
    (∀ x ∈ shortLengths.take 6,
      asks x.1 (32 :: List.replicate x.2 0) = true ∧
        5 + x.2 = lengthOfKind (request x.1 (32 :: List.replicate x.2 0))) ∧
      asks 0x07 [64] = true ∧ asks 0x08 [64] = true ∧ asks 0x09 [64] = true ∧ field 0 1 [64] = 64 := by
  decide +kernel

/-- Feed and clip numbers at both ends of their ranges. -/
theorem witness_GetRequestsReportAndChangeNothing_numbers :
    (∀ n ∈ [(0 : FeedNo), 31],
      ReadyFor .getFeed (request 2 (be 1 n)) [] (asked 2 (be 1 n) State.reset) ∧
        field 0 1 (be 1 n) = n.val) ∧
      (∀ n ∈ [(0 : FeedNo), 31],
        ReadyFor .getCounters (request 17 ([1] ++ be 1 n ++ [0])) []
          (asked 17 ([1] ++ be 1 n ++ [0]) State.reset)) ∧
      ∀ n ∈ [(0 : ClipNo), 63],
        ReadyFor .getClip (request 9 (be 1 n)) [] (asked 9 (be 1 n) State.reset) ∧
          field 0 1 (be 1 n) = n.val := by
  decide +kernel

/-- The kinds without a number; GET WATCH in and outside a sweep. -/
theorem witness_GetRequestsReportAndChangeNothing_others :
    let s := State.reset
    TxRoomFor 1 s ∧ TxRoomFor 1 (sweeping s) ∧
      ReadyFor .getStatus (request 15 []) [] (asked 15 [] s) ∧
      ReadyFor .getWatch (request 13 []) [] (asked 13 [] s) ∧
      ReadyFor .getWatch (request 13 []) [] (asked 13 [] (sweeping s)) ∧
      ReadyFor .getCounters (request 17 [0, 0, 0]) [] (asked 17 [0, 0, 0] s) := by
  decide +kernel

/-- A clear byte of 2 under either scope. -/
theorem witness_ClearedCountersAreTheOnesRead_refused :
    ∀ body ∈ [[0, 32, 2], [1, 31, 2]],
      ReadyFor .getCounters (request 17 body) [] (asked 17 body State.reset) ∧
        TxRoomFor 1 (asked 17 body State.reset) ∧ 3 ≤ body.length ∧ 1 < field 2 1 body ∧
        (field 0 1 body = 0 ∨ (field 0 1 body = 1 ∧ field 1 1 body < 32)) := by
  decide +kernel

theorem witness_ClearedCountersAreTheOnesRead :
    ∀ body ∈ [[0, 0, 1], [1, 31, 1]],
      ReadyFor .getCounters (request 17 body) [] (asked 17 body State.reset) ∧
        TxRoomFor 1 (asked 17 body State.reset) ∧ 3 ≤ body.length ∧ field 2 1 body = 1 ∧
        (field 0 1 body = 0 ∨ (field 0 1 body = 1 ∧ field 1 1 body = (31 : FeedNo).val)) := by
  decide +kernel

/-- A body of SET FEED for feed 0 with the power-on configuration. -/
def feedBody : List Byte := be 1 0 ++ configBytes FeedConfig.default

/-- Each state; a key held by another entry; a STALLED entry that can open a clip on record 0. -/
theorem witness_SetFeedReplacesTheConfiguration :
    FeedConfig.default.valid = true ∧
      (∀ st ∈ [FeedState.off, .idle, .recording, .lost, .stalled],
        let s := asked 1 feedBody (feedIn st State.reset)
        let held := modFeed 31 (fun e => { e with state := .idle }) s
        ReadyFor .setFeed (request 1 feedBody) [] s ∧ ReadyFor .setFeed (request 1 feedBody) [] held ∧
          TxRoomFor 3 s ∧ TxRoomFor 1 held ∧ (s.feed 0).state = st ∧ (held.feed 0).state = st ∧
          keyTaken 0 FeedConfig.default.tag FeedConfig.default.origin s = false ∧
          keyTaken 0 FeedConfig.default.tag FeedConfig.default.origin held = true ∧
          (request 1 feedBody).body = be 1 (0 : FeedNo).val ++ configBytes FeedConfig.default ++ []) ∧
      openable 0 (feedIn .stalled State.reset) = none ∧
      openable 0 (withHandles (feedIn .stalled State.reset)) = some 0 := by
  decide +kernel

/-- A frame period one below its range, in a state that passes it on and in those refused with STATE, and
each code byte one above its range. -/
theorem witness_SetFeedReplacesTheConfiguration_refused :
    let low : FeedConfig := { FeedConfig.default with period := 9999 }
    let body := be 1 0 ++ configBytes low
    let bytes := configBytes FeedConfig.default
    ReadyFor .setFeed (request 1 body) [] (asked 1 body State.reset) ∧
      TxRoomFor 1 (asked 1 body State.reset) ∧ low.FitsItsBytes ∧ low.valid = false ∧
      59 ≤ (configBytes low).length ∧
      (∀ st ∈ [FeedState.recording, .lost],
        let s := asked 1 body (feedIn st State.reset)
        ReadyFor .setFeed (request 1 body) [] s ∧ TxRoomFor 1 s ∧ (s.feed 0).state = st) ∧
      ∀ v ∈ [(24, 2), (29, 2), (30, 3), (34, 2), (47, 4), (58, 2)],
        let b := bytes.set v.1 (BitVec.ofNat 8 v.2)
        ReadyFor .setFeed (request 1 (be 1 0 ++ b)) [] (asked 1 (be 1 0 ++ b) State.reset) ∧
          field v.1 1 b = v.2 ∧ 59 ≤ b.length := by
  decide +kernel

/-- Outside OFF, with the key held by another entry, and free to go to IDLE. -/
theorem witness_EnableFeedStartsMatching :
    let s := asked 3 [31] State.reset
    let held := modFeed 30 (fun e => { e with state := .idle }) s
    let idle := modFeed 31 (fun e => { e with state := .idle }) s
    (∀ t ∈ [s, held, idle], ReadyFor .enableFeed (request 3 [31]) [] t ∧ TxRoomFor 2 t) ∧
      1 ≤ (request 3 [31]).body.length ∧ field 0 1 (request 3 [31]).body = (31 : FeedNo).val ∧
      (idle.feed 31).state ≠ .off ∧ (held.feed 31).state = .off ∧
      keyTaken 31 (held.feed 31).cfg.tag (held.feed 31).cfg.origin held = true ∧
      (s.feed 31).state = .off ∧ keyTaken 31 (s.feed 31).cfg.tag (s.feed 31).cfg.origin s = false := by
  decide +kernel

theorem witness_DisableFeedTakesTheFeedOff :
    let off := asked 4 [0] State.reset
    let s := asked 4 [0] recording
    ReadyFor .disableFeed (request 4 [0]) [] off ∧ (off.feed 0).state = .off ∧ TxRoomFor 1 off ∧
      ReadyFor .disableFeed (request 4 [0]) [] s ∧ 1 ≤ (request 4 [0]).body.length ∧
      field 0 1 (request 4 [0]).body = (0 : FeedNo).val ∧ (s.feed 0).state ≠ .off ∧ OnlyRing 0 s ∧
      storeCount s < 4096 ∧
      (∀ c ∈ (s.feed 0).clip, (s.clip c).feed = 0 ∧ (s.clip c).openSeg.isSome = true) ∧
      ((s.feed 0).clip = none → (s.feed 0).pending = none) := by
  decide +kernel

/-- A set at the ends of its ranges for a feed outside RECORDING, and for a clip in OPEN and in
RECORDING; and one with F one above its range. -/
theorem witness_StageFeedWaitsForARecordingClip :
    let v (limit : Nat) : StagedSet := ⟨.ratio, 1, 60, 1024, limit⟩
    let body (limit : Nat) : List Byte := be 1 0 ++ stagedBytes (v limit)
    (∀ s ∈ [State.reset, recording, clipIn .opened recording], ∀ n ∈ [250, 251],
      ReadyFor .stageFeed (request 5 (body n)) [] (asked 5 (body n) s) ∧
        TxRoomFor 1 (asked 5 (body n) s)) ∧
      (1 ≤ (v 250).bn ∧ (v 250).bn ≤ (v 250).bd ∧ (v 250).bd ≤ 60 ∧ 1 ≤ (v 250).segLen ∧
        (v 250).segLen ≤ 1024 ∧ (v 250).fillLimit ≤ 250) ∧
      ¬(v 251).fillLimit ≤ 250 ∧ (v 251).fillLimit < 256 ∧
      body 250 = be 1 (0 : FeedNo).val ++ stagedBytes (v 250) ++ [] := by
  decide +kernel

/-- A mode code of 3, and each other value on the far side of its range, for a feed in OFF and in
RECORDING. -/
theorem witness_StageFeedWaitsForARecordingClip_refused :
    ∀ s ∈ [State.reset, recording], ∀ b ∈ [[31, 3, 1, 1, 0, 1, 0], [31, 0, 0, 1, 0, 1, 0],
        [31, 0, 2, 1, 0, 1, 0], [31, 0, 1, 61, 0, 1, 0], [31, 0, 1, 1, 0, 0, 0], [31, 0, 1, 1, 4, 1, 0],
        [31, 0, 1, 1, 0, 1, 251]],
      ReadyFor .stageFeed (request 5 b) [] (asked 5 b s) ∧ TxRoomFor 1 (asked 5 b s) ∧ 7 ≤ b.length ∧
        field 0 1 b < 32 ∧
        (2 < field 1 1 b ∨ field 2 1 b = 0 ∨ field 3 1 b < field 2 1 b ∨ 60 < field 3 1 b ∨
          field 4 2 b = 0 ∨ 1024 < field 4 2 b ∨ 250 < field 6 1 b) := by
  decide +kernel

/-- One byte of the power-on settings out of its range, each in turn, with a write in the window and
without. -/
theorem witness_SetStorageReplacesTheSettings_refused :
    ∀ s ∈ [State.reset, oneInAir .index none], ∀ x ∈ [(0, 2), (13, 0), (14, 0), (15, 3), (16, 3), (17, 3),
        (18, 8), (19, 8), (20, 8)],
      let b := (storageBody StorageSettings.default).set x.1 (BitVec.ofNat 8 x.2)
      ReadyFor .setStorage (request 10 b) [] (asked 10 b s) ∧ TxRoomFor 1 (asked 10 b s) ∧
        21 ≤ b.length ∧ field x.1 1 b = x.2 := by
  decide +kernel

/-- The power-on storage settings with a write in the window, and without. -/
theorem witness_SetStorageReplacesTheSettings :
    let body := storageBody StorageSettings.default
    StorageSettings.default.InRange ∧
      (∀ s ∈ [State.reset, oneInAir .index none],
        ReadyFor .setStorage (request 10 body) [] (asked 10 body s) ∧ TxRoomFor 1 (asked 10 body s)) ∧
      window (oneInAir .index none) ≠ [] ∧ window State.reset = [] ∧ body = body ++ [] := by
  decide +kernel

theorem witness_SetDeviceJudgesTheNewLevel :
    ∀ v ∈ [(0, 1, 255), (3, 255, 1), (4, 1, 1), (3, 0, 1), (3, 1, 0)],
      let body := be 1 v.1 ++ be 1 v.2.1 ++ be 1 v.2.2 ++ []
      ReadyFor .setDevice (request 11 body) [] (asked 11 body State.reset) ∧
        TxRoomFor 2 (asked 11 body State.reset) ∧ v.1 < 256 ∧ v.2.1 < 256 ∧ v.2.2 < 256 := by
  decide +kernel

/-- All 32 feeds, and period 0 with no feed, in and outside a sweep. -/
theorem witness_SetWatchReplacesTheSequence :
    ∀ v ∈ [(255, List.finRange 32), (0, [])], ∀ s ∈ [State.reset, sweeping State.reset],
      let body := watchBody v.1 v.2 ++ []
      ReadyFor .setWatch (request 12 body) [] (asked 12 body s) ∧ TxRoomFor 1 (asked 12 body s) ∧
        v.1 < 256 ∧ v.2.Nodup := by
  decide +kernel

/-- A count of 33, feed number 32 and a feed listed twice, in and outside a sweep; for the last two the body
holds the count. -/
theorem witness_SetWatchReplacesTheSequence_refused :
    ∀ s ∈ [State.reset, sweeping State.reset], ∀ b ∈ [[1, 33], [1, 1, 32], [1, 2, 5, 5]],
      ReadyFor .setWatch (request 12 b) [] (asked 12 b s) ∧ TxRoomFor 1 (asked 12 b s) ∧
        (32 < field 1 1 b ∨ (2 + field 1 1 b ≤ b.length ∧
          ((∃ x ∈ (b.drop 2).take (field 1 1 b), 31 < x.toNat) ∨
            ¬((b.drop 2).take (field 1 1 b)).Nodup))) := by
  decide +kernel

theorem witness_SetOriginsReplacesListAndAddress :
    (∀ body ∈ [originsBody 6 [1, 2, 3, 4], originsBody 6 []],
      ReadyFor .setOrigins (request 14 body) [] (asked 14 body State.reset) ∧
        TxRoomFor 1 (asked 14 body State.reset)) ∧
      [(1 : Addr), 2, 3, 4].length ≤ 4 ∧
      ReadyFor .setOrigins (request 14 [5]) [] (asked 14 [5] State.reset) ∧
      4 < field 0 1 (request 14 [5]).body ∧
      ReadyFor .setOrigins (request 14 (1 :: be 11 0)) [] (asked 14 (1 :: be 11 0) State.reset) ∧
      (1 :: be 11 0).length < 7 + 6 * field 0 1 (1 :: be 11 0) := by
  decide +kernel

theorem witness_ClearStatusClearsBySnapshot :
    let body : List Byte := List.replicate 36 0xFF
    ReadyFor .clearStatus (request 16 body) [] (asked 16 body State.reset) ∧
      TxRoomFor 1 (asked 16 body State.reset) ∧ 36 ≤ body.length := by
  decide +kernel

/-- A response waiting for a full transmit queue, a reset due, and kind 0x13 and RESET DEVICE with room and
with a full transmit queue. -/
theorem witness_UnknownKindsAndResetDeviceAreAnswered :
    let full := { State.reset with mu := { State.reset.mu with tx := List.replicate 16 ⟨1, 2, 3, []⟩ } }
    let waits := { full with mu := { full.mu with waiting := some ⟨⟨1, 2, 3, []⟩, false⟩ } }
    let due := { State.reset with mu := { State.reset.mu with resetDue := true } }
    MuBounded waits ∧ waits.mu.waiting.isSome = true ∧ MuBounded due ∧ due.mu.resetDue = true ∧
      ∀ s ∈ [State.reset, full],
        ReadyFor .unknown (request 0x13 []) [] (asked 0x13 [] s) ∧
        ReadyFor .resetDevice (request 0x12 []) [] (asked 0x12 [] s) ∧
        (TxRoomFor 1 (asked 0x13 [] s) ↔ s = State.reset) ∧
        (TxRoomFor 1 (asked 0x12 [] s) ↔ s = State.reset) ∧
        ((asked 0x13 [] s).mu.tx.length = 16 ↔ s = full) ∧
        ((asked 0x12 [] s).mu.tx.length = 16 ↔ s = full) := by
  decide +kernel

/-! ### Witnesses: encodings and invariants -/

/-- The power-on values, and every field at the top of its range. -/
theorem witness_ConfigurationsAndSettingsReadBack :
    FeedConfig.default.valid = true ∧ StorageSettings.default.InRange ∧
      ({ tag := 0xFFFF, origin := BitVec.allOnes 48, unitSize := 8192, period := 120000, depth := 64,
         quota := 16384, hold := 500, asmTimeout := 1000, clipLimit := some 4294967295,
         atLimit := .split, staged := ⟨.marked, 60, 60, 1024, 250⟩, browseUnits := 64, cost := .b,
         startLabel := ⟨23, 59, 59, 9⟩, handleNext := BitVec.allOnes 32,
         handleCeiling := BitVec.allOnes 32, watchMode := .both, floor := BitVec.allOnes 32,
         ceiling := BitVec.allOnes 32, lostSweeps := 255, pacing := 250,
         autoResume := true } : FeedConfig).valid = true ∧
      (⟨some (BitVec.allOnes 48), 1, 255, 255, ⟨.shed, .retry, .wait⟩, ⟨7, 7, 7⟩⟩ :
        StorageSettings).InRange := by
  decide +kernel

/-- Full lists, and a list of one. -/
theorem witness_ConfigurationsAndSettingsReadBack_slot :
    ((List.range 200).map (fun i => (⟨2 * i, 1, .rep⟩ : FillRun))).length ≤ 200 ∧
      (List.range 200).length ≤ 200 ∧ [(⟨2, 1, .rep⟩ : FillRun)].length ≤ 200 := by
  decide +kernel

/-- R177, section 10.4: segment 0 of section 5.10's clip 20, with one REPEAT run at position 2. -/
theorem test_slot :
    let r : IndexRecord :=
      ⟨0, 600, 601, 602, 48000, 65536, 0, 1305000, 0, 240000, 0, 3, 0, none, [⟨2, 1, .rep⟩], []⟩
    r.slot.length = 4096 ∧ (r.slot.drop 4).take 4 = [0, 0, 2, 0x58] ∧
      (r.slot.drop 58).take 14 = [1, 0, 0, 0, 0, 0, 0, 2, 0, 1, 1, 0, 0, 0] := by
  decide +kernel

/-- Feed 0 records into clip 0, whose first closed segment's INDEX write is in the queue and whose second
waits for an ESSENCE write, with the frame of that write in staging memory. -/
def publishing : State :=
  let r (n : Nat) : IndexRecord :=
    ⟨n, 600, 601, 602, 48000, 65536, 0, 0, 0, 300, 0, 1, 0, none, [], []⟩
  let s := modClip 0 (fun k => { k with
    openSeg := some { segment with number := 2, first := 2, frames := 1 }
    closed := [⟨r 0, [], true⟩, ⟨r 1, [1], false⟩] }) recording
  { s with
    nextSerial := 2
    placed := [⟨1, 100, 1, List.replicate 100 7, true, false⟩]
    smc := { s.smc with occupancy := 1 }
    sw := { s.sw with queue :=
      [⟨0, .index, 0, 0, 602, 0, 4096, .record (r 0), 0, none, none, false⟩,
        ⟨1, .essence, 0, 1, 600, 200, 100, .frame (List.replicate 100 7), 0, some ⟨9, 1, none⟩, none,
          true⟩] } }

/-- The publication position QUEUED (R98) of a clip whose INDEX write is in the write queue. -/
theorem witness_GetRequestsReportAndChangeNothing_queued :
    PublicationInOrder publishing ∧ field 102 1 (clipData 0 (publishing.clip 0)) = 3 := by
  decide +kernel

/-- The hypotheses of the EveryStepKeeps statements, at reset and in that state. -/
theorem witness_EveryStepKeepsTheQueueBounds :
    goesOn (step State.reset) = true ∧ goesOn (step publishing) = true ∧
      (∀ s ∈ [State.reset, publishing], MuBounded s ∧ WriteQueueBounded s) := by decide +kernel

theorem witness_EveryStepKeepsTheWindowSound :
    goesOn (step publishing) = true ∧ WindowSound publishing ∧ windowIds publishing = [9] := by
  decide +kernel

theorem publishing_staging : StagingSound publishing :=
  ⟨fun f => ⟨by revert f; decide +kernel, by revert f; decide +kernel⟩, by decide +kernel,
    by decide +kernel, by decide +kernel, by decide +kernel⟩

theorem witness_EveryStepKeepsTheContextBounds :
    ContextsBounded publishing ∧ StagingSound publishing ∧ WindowSound publishing ∧
      FeedsAndClipsAgree publishing :=
  ⟨by decide +kernel, publishing_staging, by decide +kernel, by decide +kernel⟩

theorem witness_EveryStepKeepsTheClipCounts :
    ∀ s ∈ [State.reset, publishing], ClipCountsAgree s := by
  decide +kernel

theorem witness_EveryStepKeepsPublicationInOrder :
    PublicationInOrder publishing ∧ WindowSound publishing ∧ FeedsAndClipsAgree publishing ∧
      StagingSound publishing :=
  ⟨by decide +kernel, by decide +kernel, by decide +kernel, publishing_staging⟩

theorem witness_EveryStepKeepsFeedsAndClipsTogether :
    FeedsAndClipsAgree publishing ∧ KeysDistinct publishing :=
  ⟨by decide +kernel, by decide +kernel⟩

/-! ### One step of each command -/

/-- R1: power-on leaves OFF feeds, FREE clips, pressure level 2 and the waiting commands. -/
theorem test_powerOnReset :
    let t := after .powerOnReset { recording with pending := [.stepEnd] }
    (t.feed 0).state = .off ∧ (t.clip 0).state = .free ∧ t.smc.level = 2 ∧ t.pending = [.stepEnd] := by
  decide +kernel

/-- R27: a unit of three bytes adds three to its feed's arrival byte count and one to *units received*. -/
theorem test_contributionFrameReceived :
    let t := after (.contributionFrameReceived mediaFrame) recording
    (t.feed 0).arrival = 3 ∧ (t.feed 0).counters.unitsReceived = 1 ∧
      t.handedUnits.map (·.payload) = [[1, 2, 3]] := by
  decide +kernel

/-- R157: a body of tag 7 and kind 2 with one byte more waits as a request. -/
theorem test_contributionFrameReceived_request :
    (after (.contributionFrameReceived (mgmtFrame [0, 7, 0, 2, 31])) State.reset).mu.requests =
      [⟨9, 7, 2, [31]⟩] := by
  decide +kernel

theorem test_contributionCarrierLoss :
    (after .contributionCarrierLoss State.reset).contribCarrier = false := by decide +kernel

theorem test_contributionCarrierReturn :
    (after .contributionCarrierReturn { State.reset with contribCarrier := false }).contribCarrier = true := by
  decide +kernel

/-- R163, R171: a body of five bytes makes a unit of 23 and an Ethernet frame of 60 bytes, addressed
first to the destination. -/
theorem test_transmitFrameSent :
    let s := { State.reset with mu := { State.reset.mu with tx := [⟨5, 6, 0, [0, 7, 0, 15, 0]⟩] } }
    let t := after .transmitFrameSent s
    t.mu.tx = [] ∧ t.mu.lastSent.length = 60 ∧
      t.mu.lastSent.take 16 = [0, 0, 0, 0, 0, 5, 0, 0, 0, 0, 0, 6, 0x88, 0xD7, 3, 0] := by
  decide +kernel

/-- R163, R158: as the sixteenth frame leaves, the waiting response joins and takes its request with it. -/
theorem test_transmitFrameSent_joins :
    let x : TxFrame := ⟨5, 6, 0, [0, 7, 0, 15, 0]⟩
    let s := { State.reset with mu := { State.reset.mu with
      tx := List.replicate 16 x, waiting := some ⟨⟨7, 6, 0, []⟩, false⟩, requests := [request 15 []] } }
    let t := after .transmitFrameSent s
    t.mu.tx.length = 16 ∧ t.mu.tx.getLast? = some ⟨7, 6, 0, []⟩ ∧ t.mu.waiting = none ∧
      t.mu.requests = [] := by
  decide +kernel

/-- Feed 4 of section 3.7: U = 8,000, Q = 16, 13 blocks held; its context C1 after event 5. -/
def feedFour (units : List Nat) (last : Option (Nat × Nat)) (u : HandedUnit) : State :=
  let s := modFeed 4 (fun e => { e with
    state := .recording, clip := some 0, cfg := { e.cfg with unitSize := 8000, quota := 16 } }) State.reset
  let c : Context := ⟨7, 0, units.map (fun k => (k, [])), last, true, [0, 1]⟩
  { setContexts 4 [c] (setHolding 4 16 s) with handedUnits := [u] }

/-- Section 3.7, event 6: unit 9, the last, of 1,200 bytes joins coverage 0, 3, 8 and asks no block. -/
theorem test_faTakeUnit :
    let t := after (.faTakeUnit 4) (feedFour [0, 3, 8] none ⟨4, 7, 9, true, false, 1200, [], 590⟩)
    (t.contextsOf 4).map (fun x => (x.units.map Prod.fst, x.last)) = [([0, 3, 8, 9], some (9, 1200))] ∧
      t.holding 4 = 16 := by
  decide +kernel

/-- Section 3.7, event 9: unit 7 completes the frame of 73,200 bytes in two blocks. -/
theorem test_faTakeUnit_commits :
    let t := after (.faTakeUnit 4)
      (feedFour [0, 1, 2, 3, 4, 5, 6, 8, 9] (some (9, 1200)) ⟨4, 7, 7, false, false, 8000, [], 1540⟩)
    t.handedFrames.map (fun h => (h.frame.size, h.frame.blocks, h.frame.mark)) = [(73200, 2, true)] ∧
      t.contextsOf 4 = [] := by
  decide +kernel

/-- Feed 9 of section 4.13: o = 960,000, F = 3, D = 4, N as given, and a ring of MEDIA frames. -/
def feedNine (n : Nat) (ring : List (Nat × Tick)) (handed : List Frame) : State :=
  let s := modFeed 9 (fun e => { e with
    state := .recording, clip := some 14, cfg := { e.cfg with depth := 4 } }) State.reset
  let s := modClip 14 (fun _ => { Clip.freeRecord with
    feed := 9, state := .recording, origin := some 960000, placed := n, essence := n,
    working := ⟨.off, 1, 1, 250, 3⟩, openSeg := some { segment with frames := n },
    cursor := some ⟨some (960000, 960000), n, some (n - 1), 0, 0, 0⟩ }) s
  let entry (x : Nat × Tick) : RingEntry := ⟨x.1, aFrame (960000 + BitVec.ofNat 48 (x.1 * 48000)) x.2⟩
  { setRing 9 (ring.map entry) s with handedFrames := handed.map (fun x => ⟨9, x⟩) }

/-- Section 4.13, event 4: stamp o + 733,000 takes index 15 and counts as off-grid. -/
theorem test_frameAdmission :
    let t := after (.frameAdmission 9 .media)
      (feedNine 11 [(12, 0), (14, 20000)] [aFrame (960000 + 733000) 30000])
    (t.ring 9).map (·.index) = [12, 14, 15] ∧ (t.feed 9).counters.offGrid = 1 := by
  decide +kernel

/-- Section 4.13, event 7: frame 17 at the full ring cuts the hold of 12; 11 is filled as REPEAT, 12 to
15 are placed, and 17 waits. -/
theorem test_frameAdmission_fullRing :
    let t := after (.frameAdmission 9 .media) (atTick 40000
      (feedNine 11 [(12, 0), (13, 36000), (14, 20000), (15, 30000)] [aFrame (960000 + 17 * 48000) 40000]))
    (t.ring 9).map (·.index) = [17] ∧ (t.clip 14).placed = 16 ∧ (t.clip 14).repeats = 1 ∧
      (t.clip 14).essence = 15 ∧ t.sw.queue.map (·.offset) = [0, 100, 200, 300] := by
  decide +kernel

/-- R51: a context 100 ms old expires, one a tick younger does not. -/
theorem test_contextExpiry :
    let t := after .contextExpiry (atTick 120000
      (setContexts 0 [⟨5, 0, [], none, false, []⟩, ⟨6, 1, [], none, false, []⟩] recording))
    (t.contextsOf 0).map (·.stamp) = [6] ∧ (t.feed 0).counters.incomplete = 1 := by
  decide +kernel

/-- Section 4.13, event 8: at step 74, +88,800, index 16 is filled and frame 17 is placed. -/
theorem test_reorderHoldExpiry :
    let s := feedNine 16 [(17, 40000)] []
    let t := after (.reorderHoldExpiry 9) (atTick 88800 s)
    after (.reorderHoldExpiry 9) (atTick 87600 s) = atTick 87600 s ∧ t.ring 9 = [] ∧
      (t.clip 14).placed = 18 ∧ (t.clip 14).repeats = 1 := by
  decide +kernel

/-- Section 4.14, events 1 to 4: the run fills 290 to 299, and goes on as VOID in clip 11. -/
theorem test_pacingFill :
    let s := modFeed 2 (fun e => { e with
      state := .recording, clip := some 6
      cfg := { e.cfg with
        hold := 200, clipLimit := some 300, atLimit := .split, handleNext := 50, handleCeiling := 90,
        staged := ⟨.off, 1, 1, 250, 3⟩ } }) State.reset
    let s := { s with clips := Vector.ofFn (fun c : ClipNo =>
      { Clip.freeRecord with state := if c < 11 then .closed else .free }) }
    let s := modClip 6 (fun _ => { Clip.freeRecord with
      feed := 2, state := .recording, origin := some 0, startLabel := 900000, placed := 290, essence := 290,
      working := ⟨.off, 1, 1, 250, 3⟩, openSeg := some ⟨1, 250, 40, 900250, 0, 0, [], 0, 0, [], []⟩,
      cursor := some ⟨some (0, 0), 290, some 289, 0, 0, 0⟩ }) s
    let s := setRing 2 [⟨301, aFrame 14448000 14450000⟩] s
    let t := after (.pacingFill 2) (atTick 14640000 { s with fw := { s.fw with pacing := [2] } })
    (t.clip 6).placed = 300 ∧ (t.clip 6).repeats = 10 ∧ (t.clip 6).endReason = some .limit ∧
      (t.clip 11).placed = 4 ∧ (t.clip 11).voids = 4 ∧ (t.clip 11).origin = some 14400000 ∧
      (t.clip 11).startLabel = 900300 ∧ t.ring 2 = [] ∧ (t.feed 2).counters.late = 1 := by
  decide +kernel

/-- R15: a lost feed's clip ends SOURCE_LOST. -/
theorem test_feedLost :
    let t := after (.feedLost 0) { recording with fw := { recording.fw with losses := [0] } }
    (t.feed 0).state = .lost ∧ (t.clip 0).endReason = some .sourceLost ∧ t.fw.losses = [] := by
  decide +kernel

/-- R149: the next expiry of a period of 10 ms is 12,000 ticks on. -/
theorem test_periodExpiry :
    (after .periodExpiry (expiring [3])).fw.nextExpiry = 24000 ∧
      (after .periodExpiry (expiring [3])).fw.sweep = some ⟨12000, [3]⟩ := by
  decide +kernel

/-- Feed 0 as feed 3 of section 8.8, with the starved count and the verdict before a sweep and what the
sweep reads. -/
def watched (count : Nat) (old : Verdict) (bytes : Nat) : State :=
  let s := modFeed 0 (fun e => { e with
    starved := count, arrival := BitVec.ofNat 32 bytes,
    cfg := { e.cfg with watchMode := .both, floor := 100000, ceiling := 2000000 } }) recording
  sweeping (setWatchEntry 0 ⟨0, old, some 0⟩ s)

/-- Section 8.8, sweeps 2 and 4. -/
theorem test_watchCheck :
    let t := after .watchCheck (watched 0 .normal 40000)
    let u := after .watchCheck (watched 2 .starved 3000000)
    (t.feed 0).starved = 1 ∧ t.fw.pacing = [0] ∧ t.mu.devFlags = 0x40 ∧ (u.feed 0).starved = 0 ∧
      (u.feed 0).throttled = true ∧ u.flagsOf 0 = 0x10 ∧ u.fw.pacing = [] := by
  decide +kernel

/-- Section 8.8, sweep 9: the third STARVED verdict hands on the loss. -/
theorem test_watchCheck_loss :
    let t := after .watchCheck (watched 2 .starved 0)
    (t.feed 0).starved = 3 ∧ t.fw.pacing = [] ∧ t.fw.losses = [0] ∧ t.mu.devFlags = 0 := by
  decide +kernel

/-- Section 6.7, event 10: pick 5 of 128 KiB is queued at 655,360 and pick 6 finds the share full, is a
late hole, and gives its two blocks back. -/
theorem test_stepEnd :
    let large (pick : Nat) : Reduction := { lane pick pick false with outSize := 131072 }
    let s := { recording with
      bu := { recording.bu with step := some ⟨[large 5, large 6], 0⟩ }
      sw := { recording.sw with queue := List.replicate 223 (inAir .essence none) } }
    let t := after .stepEnd { s with smc := { s.smc with occupancy := 4 } }
    t.sw.queue.getLast?.map (fun e => (e.cls, e.offset, e.length)) = some (.browse, 655360, 131072) ∧
      (t.clip 0).openSeg.map (·.holes) = some [6] ∧ t.smc.occupancy = 2 ∧
      t.bu.counters.delivered = 1 ∧ t.bu.counters.shedShare = 1 := by
  decide +kernel

/-- Clip 20 of section 5.10 at event 5: segment 0 waits for W0 alone. -/
def awaiting : State :=
  let r : IndexRecord := ⟨0, 600, 601, 602, 48000, 65536, 0, 1305000, 0, 240000, 0, 3, 0, none, [⟨2, 1, .rep⟩], []⟩
  modClip 0 (fun k => { k with indexHandle := 602, closed := [⟨r, [0], false⟩] })
    (clipIn .recording (oneInAir .essence none))

/-- Section 5.10, event 5: the OK answer makes the segment eligible, and I0 is queued and sent: handle
602, offset 0, 4,096 bytes. -/
theorem test_writeAnswer :
    let t := after (.writeAnswer (answerFrame 1)) awaiting
    t.sw.queue.map (fun e => (e.cls, e.handle, e.offset, e.length)) = [(.index, 602, 0, 4096)] ∧
      t.sw.counters.essence.acknowledged = 1 ∧ (t.clip 0).closed.map (·.unanswered) = [[]] := by
  decide +kernel

/-- R127, R97: FAULT for an ESSENCE write fails its clip, and the feed goes to IDLE. -/
theorem test_writeAnswer_fault :
    let s := modFeed 0 (fun e => { e with state := .recording, clip := some 0 }) awaiting
    let t := after (.writeAnswer (answerFrame 3)) s
    t.sw.queue = [] ∧ (t.clip 0).state = .failed ∧ (t.clip 0).closed = [] ∧ (t.feed 0).state = .idle ∧
      t.sw.records.essence = 1 := by
  decide +kernel

/-- R129, R123: READY clears the pause and the waiting entry is sent under the next ID. -/
theorem test_ready :
    let s := oneInAir .essence none
    let s := { s with sw := { s.sw with
      queue := [{ inAir .essence none with flight := none }], paused := ⟨false, true, false⟩ } }
    let t := after (.ready (fromPeer [3])) s
    t.sw.paused.essence = false ∧ t.sw.lastUsed = 10 ∧ t.sw.queue.map (fun e => e.flight.map (·.id)) = [some 10] := by
  decide +kernel

theorem test_storageForeignFrame :
    (after (.storageForeignFrame (frameFrom 6 [3])) (oneInAir .essence none)).sw.foreign = 1 := by
  decide +kernel

/-- R124, R176: the last piece fixes the send time; the message opens with kind 1, the ID and the piece
number. -/
theorem test_lastPieceSent :
    let t := after .lastPieceSent (atTick 77 leaving)
    t.sw.queue.map (fun e => e.flight.bind (·.sendTime)) = [some 77] ∧
      t.sw.lastMessages.map (fun m => m.drop 14 |>.take 4) = [[1, 9, 0, 0]] := by
  decide +kernel

/-- R124: the last piece of an earlier send, under the same ID, does not fix the send time of the resend;
the resend's own does. -/
theorem test_lastPieceSent_resend :
    let out (order : Nat) : PortWrite := ⟨0, order, 9, 5, 6, 1, 0, 1, .frame [7]⟩
    let s := { leaving with sw := { leaving.sw with portQueue := [out 0, out 1] } }
    let t := after .lastPieceSent (atTick 70 s)
    t.sw.queue.map (fun e => e.flight.bind (·.sendTime)) = [none] ∧
      (after .lastPieceSent (atTick 77 t)).sw.queue.map (fun e => e.flight.bind (·.sendTime)) = [some 77] := by
  decide +kernel

/-- R130: at its end the backoff becomes absent and the entry is sent. -/
theorem test_backoffEnd :
    let s := oneInAir .essence none
    let s := { s with sw := { s.sw with
      queue := [{ inAir .essence none with flight := none, backoffEnd := some 100 }] } }
    after .backoffEnd (atTick 99 s) = atTick 99 s ∧
      (after .backoffEnd (atTick 100 s)).sw.queue.map (fun e => (e.flight.isSome, e.backoffEnd)) =
        [(true, none)] := by
  decide +kernel

/-- R132: a BROWSE write, with a retry limit of 0, is aborted at its first timeout. -/
theorem test_ackTimeout :
    let t := after .ackTimeout (atTick 60000 (feedIn .idle (oneInAir .browse (some 0))))
    t.sw.queue = [] ∧ t.sw.retired = [⟨9, 60000, 50⟩] ∧ t.sw.records.browse = 2 ∧
      t.sw.counters.browse.timeouts = 1 := by
  decide +kernel

/-- R123: an ID retired at 0 under a timeout of 50 ms is freed at 60,000 ticks, not at 58,800. -/
theorem test_retiredIdFreed :
    let s := { State.reset with sw := { State.reset.sw with retired := [⟨9, 0, 50⟩] } }
    (after .retiredIdFreed (atTick 58800 s)).sw.retired = [⟨9, 0, 50⟩] ∧
      (after .retiredIdFreed (atTick 60000 s)).sw.retired = [] := by
  decide +kernel

/-- R136: the window's write comes back with its attempts, its ID retired. -/
theorem test_linkLoss :
    let t := after .linkLoss (oneInAir .essence none)
    t.sw.queue.map (fun e => (e.flight, e.attempts)) = [(none, 0)] ∧ t.sw.retired = [⟨9, 0, 50⟩] ∧
      t.mu.devFlags = 0x20 := by
  decide +kernel

theorem test_carrierReturn :
    let t := after .carrierReturn { State.reset with storCarrier := false }
    t.storCarrier = true ∧ t.mu.devFlags = 0x10 := by decide +kernel

theorem test_storageHoldAsserted :
    let t := after .storageHoldAsserted State.reset
    t.holdLine = true ∧ t.mu.devFlags = 0x04 := by decide +kernel

theorem test_storageHoldReleased :
    let t := after .storageHoldReleased { State.reset with holdLine := true }
    t.holdLine = false ∧ t.mu.devFlags = 0x08 := by decide +kernel

/-- R3: a frame period below its range is BAD_VALUE, and the entry stands. -/
theorem test_setFeed :
    let body := be 1 0 ++ configBytes { FeedConfig.default with period := 9999 }
    let t := after .setFeed (asked 1 body State.reset)
    resultByte t = some 3 ∧ t.feeds = State.reset.feeds := by
  decide +kernel

/-- R18, R175: 59 configuration bytes, 7 of the pending set, state, clip in 2, 4, 1 and 1: 75 bytes. -/
theorem test_getFeed :
    ((responseData (after .getFeed (asked 2 [0] recording))).map (·.length)) = some 75 ∧
      resultByte (after .getFeed (asked 2 [32] recording)) = some 4 := by
  decide +kernel

theorem test_enableFeed :
    let t := after .enableFeed (asked 3 [31] State.reset)
    (t.feed 31).state = .idle ∧ t.flagsOf 31 = 1 ∧ resultByte t = some 0 := by
  decide +kernel

/-- R17: the disabled feed's clip drains with end reason STOPPED. -/
theorem test_disableFeed :
    let t := after .disableFeed (asked 4 [0] recording)
    (t.feed 0).state = .off ∧ (t.clip 0).state = .draining ∧ (t.clip 0).endReason = some .stopped := by
  decide +kernel

/-- R6: a clip in RECORDING leaves the entry and makes a pending set. -/
theorem test_stageFeed :
    let t := after .stageFeed (asked 5 [0, 1, 1, 3, 0, 100, 7] recording)
    (t.feed 0).pending = some ⟨.ratio, 1, 3, 100, 7⟩ ∧ (t.feed 0).cfg.staged = ⟨.off, 1, 1, 250, 25⟩ := by
  decide +kernel

/-- R11, R79: the label 14:30:00:00 of section 5.10 counts 1,305,000. -/
theorem test_openClip :
    let t := after .openClip (asked 6 [0, 1, 14, 30, 0, 0] (withHandles (feedIn .idle State.reset)))
    (t.clip 0).state = .opened ∧ (t.clip 0).startLabel = 1305000 ∧ (t.feed 0).cfg.handleNext = 3 ∧
      responseData t = some [0] := by
  decide +kernel

/-- R12: with neither browse nor writes, the final record of three frames is handed on at once. -/
theorem test_closeClip :
    let t := after .closeClip (asked 7 [0] recording)
    (t.feed 0).state = .idle ∧ (t.clip 0).state = .draining ∧
      t.sw.queue.map (fun e => (e.cls, e.offset)) = [(.index, 0)] := by
  decide +kernel

/-- Section 1.9: the record goes to the lowest STALLED feed. -/
theorem test_releaseClip :
    let t := after .releaseClip (asked 8 [0] (clipIn .closed (withHandles (feedIn .stalled State.reset))))
    (t.clip 0).state = .opened ∧ (t.feed 0).state = .recording ∧ resultByte t = some 0 := by
  decide +kernel

/-- R98, R175: 105 bytes of data; the third is the state, RECORDING. -/
theorem test_getClip :
    ((responseData (after .getClip (asked 9 [0] recording))).map (fun d => d.take 3)) = some [0, 0, 2] ∧
      resultByte (after .getClip (asked 9 [64] recording)) = some 4 := by
  decide +kernel

/-- R119: the retry limit 8 is out of range. -/
theorem test_setStorage :
    let body (limit : Nat) := storageBody { StorageSettings.default with peer := some 5, retry := ⟨limit, 0, 0⟩ }
    (after .setStorage (asked 10 (body 7) State.reset)).sw.settings.peer = some 5 ∧
      resultByte (after .setStorage (asked 10 (body 8) State.reset)) = some 3 := by
  decide +kernel

/-- R143, R145: at level 0 the raise mark is 32,768. -/
theorem test_setDevice :
    let s (n : Nat) := { State.reset with smc := { State.reset.smc with occupancy := n } }
    (after .setDevice (asked 11 [0, 40, 96] (s 32768))).smc.pressure = true ∧
      (after .setDevice (asked 11 [0, 40, 96] (s 32767))).smc.pressure = false := by
  decide +kernel

/-- R148: a feed listed twice is BAD_VALUE. -/
theorem test_setWatch :
    (after .setWatch (asked 12 [10, 2, 3, 8] State.reset)).fw.sequence = [3, 8] ∧
      resultByte (after .setWatch (asked 12 [10, 2, 3, 3] State.reset)) = some 3 := by
  decide +kernel

theorem test_getWatch :
    responseData (after .getWatch (asked 13 [] State.reset)) = some [0, 0] ∧
      resultByte (after .getWatch (asked 13 [] (sweeping State.reset))) = some 1 := by
  decide +kernel

theorem test_setOrigins :
    let t := after .setOrigins (asked 14 [1, 0, 0, 0, 0, 0, 6, 0, 0, 0, 0, 0, 9] State.reset)
    t.mu.origins = [9] ∧ t.mu.address = 6 ∧ t.mu.tx.map (·.src) = [6] := by
  decide +kernel

/-- R175: 36 bytes of flags, then occupancy 0, level 2, PRESSURE released, carrier present. -/
theorem test_getStatus :
    (responseData (after .getStatus (asked 15 [] State.reset))).map (fun d => (d.drop 36).take 7) =
      some [0, 0, 0, 0, 2, 0, 1] := by
  decide +kernel

/-- R166: only the flag named in the snapshot is cleared. -/
theorem test_clearStatus :
    let s := { State.reset with mu := { State.reset.mu with devFlags := 0x41 } }
    (after .clearStatus (asked 16 (0x40 :: List.replicate 35 0) s)).mu.devFlags = 0x01 := by
  decide +kernel

/-- R162: scope FEED, feed 0, clear; the first counter was 5. -/
theorem test_getCounters :
    let s := modFeed 0 (fun e => { e with counters := { e.counters with unitsReceived := 5 } }) State.reset
    let t := after .getCounters (asked 17 [1, 0, 1] s)
    (responseData t).map (fun d => d.take 4) = some [0, 0, 0, 5] ∧
      (t.feed 0).counters.unitsReceived = 0 := by
  decide +kernel

theorem test_resetDevice :
    let t := after .resetDevice (asked 18 [] State.reset)
    t.mu.resetDue = true ∧ resultByte t = some 0 := by decide +kernel

theorem test_unknownKindRequest :
    resultByte (after .unknownKindRequest (asked 0x13 [] State.reset)) = some 3 := by decide +kernel

/-- R167: the settings stay, the window's ID is retired at wall time 0, the DONE stays to be sent. -/
theorem test_resetTakesEffect :
    let s := after .resetDevice (asked 18 [] (atTick 5000 (oneInAir .index none)))
    let t := after .resetTakesEffect s
    t.wall = 0 ∧ t.sw.settings.peer = some 5 ∧ t.sw.queue = [] ∧ t.sw.retired = [⟨9, 0, 50⟩] ∧
      t.mu.tx.length = 1 ∧ t.mu.resetDue = false := by
  decide +kernel

theorem test_resetLineAsserted :
    let t := after .resetLineAsserted (atTick 77 recording)
    t.resetLine = true ∧ t.wall = 0 ∧ after .stepEnd t = t := by decide +kernel

/-! ### The step -/

/-- The front command runs on the rest of the queue; with none waiting the part takes a due step, and
otherwise one tick (assumption log 1). -/
theorem test_step :
    (match step { State.reset with pending := [.storageHoldAsserted, .stepEnd] } with
      | .next t => t.holdLine && t.pending == [.stepEnd]
      | _ => false) = true ∧
      (match step (expiring [3]) with
      | .next t => t.fw.sweep == some ⟨12000, [3]⟩
      | _ => false) = true ∧
      (match step State.reset with
      | .next t => t.wall == 1
      | _ => false) = true := by
  decide +kernel

/-- The table gives no bits: no word spells a command, and the queue stands. -/
theorem test_decodeTableWord : decodeTableWord 16 5 = none ∧ State.reset.withFetchWord 16 5 = State.reset := by
  decide +kernel

end Sys2Proof.Tests
end

section
/-! PROOFS. ENABLE FEED and OPEN CLIP: what a change of a feed's state, the opening of a clip and an accepted
request do to the state, and the two statements that follow from it (R9, R10, R11, R84, R158). -/

namespace Sys2Proof.Machine

/-! ### Notices and flags -/

/-- Where no notice can meet a join, a notice takes at most one place of the transmit queue. -/
theorem notify_tx_length_le (k : NoticeKind) (i d : Nat) {s : State} (hj : s.mu.joined = none) :
    (notify k i d s).mu.tx.length ≤ s.mu.tx.length + 1 := by
  have hy : yieldPlace s = s := by simp [yieldPlace, joinMet, hj]
  rcases notify_cases k i d s with ⟨_, he⟩ | ⟨dst, rest, _, he⟩
  · rw [he]; split <;> simp
  · rw [he, hy]
    rcases offerNotice_cases dst k i d s with ⟨_, he⟩ | ⟨_, _, he⟩ | ⟨_, _, he⟩ <;> simp [he]

theorem raiseFeed_flagsOf_self (f : FeedNo) (d : FeedFlag) (s : State) :
    (raiseFeed f d s).flagsOf f = s.flagsOf f ||| d.bit := by
  simp [raiseFeed]

theorem raiseFeed_flagsOf_other {f x : FeedNo} (d : FeedFlag) (s : State) (h : x ≠ f) :
    (raiseFeed f d s).flagsOf x = s.flagsOf x := by
  simp [raiseFeed, h]

/-! ### A change of a feed's state (R9) -/

theorem setFeedState_tx_length_le (f : FeedNo) (st : FeedState) {s : State} (hj : s.mu.joined = none) :
    (setFeedState f st s).mu.tx.length ≤ s.mu.tx.length + 1 := by
  unfold setFeedState
  split
  · omega
  · exact le_of_le_of_eq (notify_tx_length_le _ _ _ (by simpa using hj)) (by simp)

/-- A change of a feed's state writes the state and, on entry into RECORDING, the starved count. -/
theorem setFeedState_feed_self {f : FeedNo} {st : FeedState} {s : State} (h : (s.feed f).state ≠ st) :
    (setFeedState f st s).feed f =
      { s.feed f with
        state := st, starved := if st = .recording then 0 else (s.feed f).starved } := by
  simp [setFeedState, h]

theorem setFeedState_feed_other {f x : FeedNo} (st : FeedState) (s : State) (h : x ≠ f) :
    (setFeedState f st s).feed x = s.feed x := by
  unfold setFeedState
  split <;> simp [h]

/-- A change of a feed's state raises its STATE_CHANGED. -/
theorem setFeedState_flagsOf_self {f : FeedNo} {st : FeedState} {s : State} (h : (s.feed f).state ≠ st) :
    (setFeedState f st s).flagsOf f = s.flagsOf f ||| 0x01 := by
  simp [setFeedState, h, raiseFeed_flagsOf_self, FeedFlag.bit]

theorem setFeedState_flagsOf_other {f x : FeedNo} (st : FeedState) (s : State) (h : x ≠ f) :
    (setFeedState f st s).flagsOf x = s.flagsOf x := by
  unfold setFeedState
  split <;> simp [raiseFeed_flagsOf_other, h]

/-! ### Requests (R158, R159) -/

section
variable (r : Request) (rs : List Request) (res : Result) (data : List Byte) (s : State)

@[simp] theorem responded_feed (f : FeedNo) : (responded r rs res data s).feed f = s.feed f := rfl

@[simp] theorem responded_clip (c : ClipNo) : (responded r rs res data s).clip c = s.clip c := rfl

@[simp] theorem responded_flagsOf (f : FeedNo) :
    (responded r rs res data s).flagsOf f = s.flagsOf f := rfl

@[simp] theorem responded_requests : (responded r rs res data s).mu.requests = rs := rfl

@[simp] theorem responded_getLast_tx :
    (responded r rs res data s).mu.tx.getLast? = some (responseTo r res data s) := by
  simp [responded]

@[simp] theorem responded_matchFeed (tag : BitVec 16) (src : Addr) :
    matchFeed tag src (responded r rs res data s) = matchFeed tag src s := rfl

theorem responded_otherFeedsKept {f : FeedNo} {s' : State} (h : OtherFeedsKept f s' s) :
    OtherFeedsKept f s' (responded r rs res data s) := h

end

/-- The number test passes a feed's number on. -/
theorem withFeed_of_field {off : Nat} {body : List Byte} {f : FeedNo} (h : field off 1 body = f.val)
    (g : FeedNo → Reply) : withFeed off body g = g f := by
  have hlt : field off 1 body < 32 := h ▸ f.isLt
  rw [withFeed, dif_pos hlt]
  exact congrArg g (Fin.ext h)

theorem fixJoin_of_unmet {s : State} (hj : s.mu.joined = none) : fixJoin s = s := by
  rw [fixJoin, ← hj]

/-- A request that its kind accepts, and whose effect leaves room for the response, is answered DONE behind
the effect. A RESET DEVICE is left out: with its response the reset becomes due. -/
theorem take_accepted {k : RequestKind} {r : Request} {rs : List Request} {s t : State}
    {g : List Byte → State → Reply} {data : List Byte} (h : ReadyFor k r rs s) (hk : k ≠ .resetDevice)
    (hl : k.need r.body ≤ r.body.length) (hg : g r.body (fixJoin s) = .accepted data t)
    (hj : t.mu.joined = none) (hq : t.mu.requests = s.mu.requests) (hw : t.mu.waiting = s.mu.waiting)
    (hr : TxRoomFor 1 t) : take k g s = responded r rs .done data t := by
  have ⟨_, hwait, _, hreqs, _⟩ := h
  rw [take_ready h, if_neg (by omega), hg, beq_eq_false_iff_ne.mpr hk]
  calc respond r false .done data t
      = respond r false .done data (fixJoin t) := by rw [fixJoin_of_unmet hj]
    _ = responded r rs .done data t := by simp [respond_room (hq.trans hreqs) hr (hw.trans hwait), responded]

/-! ### ENABLE FEED (R10, R4, R26) -/

/-- The key check finds a clash where another entry outside OFF holds the key. -/
theorem keyTaken_iff (f : FeedNo) (tag : BitVec 16) (origin : Addr) (s : State) :
    keyTaken f tag origin s = true ↔
      ∃ g : FeedNo, g ≠ f ∧ (s.feed g).state ≠ .off ∧ (s.feed g).cfg.tag = tag ∧
        (s.feed g).cfg.origin = origin := by
  simp [keyTaken, and_assoc]

@[simp] theorem keyTaken_fixJoin (f : FeedNo) (tag : BitVec 16) (origin : Addr) (s : State) :
    keyTaken f tag origin (fixJoin s) = keyTaken f tag origin s := rfl

/-- An entry that alone holds a key outside OFF is the one matched. -/
theorem matchFeed_of_only_holder {tag : BitVec 16} {src : Addr} {s : State} {f : FeedNo}
    (hf : (s.feed f).state ≠ .off ∧ (s.feed f).cfg.tag = tag ∧ (s.feed f).cfg.origin = src)
    (hother : ∀ g : FeedNo, g ≠ f →
      ¬((s.feed g).state ≠ .off ∧ (s.feed g).cfg.tag = tag ∧ (s.feed g).cfg.origin = src)) :
    matchFeed tag src s = some f := by
  cases hm : matchFeed tag src s with
  | none =>
    rw [matchFeed, List.find?_eq_none] at hm
    exact absurd (by simpa [and_assoc] using hf) (hm f (List.mem_finRange f))
  | some g =>
    have hg := List.find?_some hm
    simp only [Bool.and_eq_true, bne_iff_ne, beq_iff_eq, and_assoc] at hg
    by_contra hne
    exact hother g (fun h => hne (by rw [h])) hg

theorem enable_feed_self {f : FeedNo} {s : State} (h : (s.feed f).state = .off) :
    (enable f s).feed f = { s.feed f with state := .idle, arrival := 0 } := by
  rw [enable, setFeedState_feed_self (by simp [h])]
  simp

theorem enable_flagsOf_self {f : FeedNo} {s : State} (h : (s.feed f).state = .off) :
    (enable f s).flagsOf f = s.flagsOf f ||| 0x01 := by
  rw [enable, setFeedState_flagsOf_self (by simp [h])]
  simp

theorem enable_otherFeedsKept (f : FeedNo) (s : State) : OtherFeedsKept f s (enable f s) := by
  intro g hg
  simp [enable, setFeedState_feed_other, setFeedState_flagsOf_other, hg]

/-- Enabling a feed writes the Feed Table and the Management Unit alone. -/
theorem enable_writes (f : FeedNo) (s : State) :
    enable f s = { s with feeds := (enable f s).feeds, mu := (enable f s).mu } := by
  apply State.ext <;> simp [enable]

/-- Where no notice can meet a join, enabling a feed leaves the requests and the waiting response, and
takes at most one place of the transmit queue. -/
theorem enable_unmet (f : FeedNo) {s : State} (hj : s.mu.joined = none) :
    (enable f s).mu.joined = none ∧ (enable f s).mu.requests = s.mu.requests ∧
      (enable f s).mu.waiting = s.mu.waiting ∧
      (enable f s).mu.tx.length ≤ s.mu.tx.length + 1 := by
  refine ⟨?_, ?_, ?_, setFeedState_tx_length_le _ _ (by simpa using hj)⟩ <;> simp [enable, hj]

/-- With no clash, units with the key of a feed that has left OFF are matched to it. -/
theorem matchFeed_enable {f : FeedNo} {s : State} (h : (s.feed f).state = .off)
    (hfree : ¬keyTaken f (s.feed f).cfg.tag (s.feed f).cfg.origin s) :
    matchFeed (s.feed f).cfg.tag (s.feed f).cfg.origin (enable f s) = some f := by
  refine matchFeed_of_only_holder (by simp [enable_feed_self h]) fun g hg hheld => hfree ?_
  rw [(enable_otherFeedsKept f s g hg).1] at hheld
  exact (keyTaken_iff ..).mpr ⟨g, hg, hheld⟩

theorem exec_enableFeed {s : State} (h : s.resetLine = false) :
    exec .enableFeed s = .next (take .enableFeed enableFeedReply s) := running_next h

theorem enableFeedReply_eq {body : List Byte} {f : FeedNo} (h : field 0 1 body = f.val) (s : State) :
    enableFeedReply body s =
      if (s.feed f).state ≠ .off then .refused .state
      else if keyTaken f (s.feed f).cfg.tag (s.feed f).cfg.origin s then .refused .duplicate
      else .accepted [] (enable f s) :=
  withFeed_of_field h _

/-- An accepted ENABLE FEED is answered DONE behind its effect. -/
theorem take_enableFeed {r : Request} {rs : List Request} {f : FeedNo} {s : State}
    (h : ReadyFor .enableFeed r rs s) (hr : TxRoomFor 2 s) (hl : 1 ≤ r.body.length)
    (hg : enableFeedReply r.body (fixJoin s) = .accepted [] (enable f (fixJoin s))) :
    take .enableFeed enableFeedReply s = responded r rs .done [] (enable f (fixJoin s)) := by
  obtain ⟨hj, hq, hw, htx⟩ := enable_unmet f (fixJoin_mu_joined s)
  refine take_accepted h (by decide) hl hg hj hq hw ?_
  simp only [fixJoin_mu_tx] at htx
  omega

/-- Settles O44: each branch of the reply is answered as it stands; in the last, the effect is `enable`. -/
theorem enableFeedStartsMatching : Obligations.EnableFeedStartsMatching := by
  intro r rs f s hready hroom hlen hfeed clash
  have hreply := enableFeedReply_eq hfeed (fixJoin s)
  rw [fixJoin_feed, keyTaken_fixJoin] at hreply
  have hclash : keyTaken f (s.feed f).cfg.tag (s.feed f).cfg.origin s = true ↔ clash := keyTaken_iff ..
  rw [exec_enableFeed hready.1]
  refine ⟨fun hst => ?_, fun hst hc => ?_, fun hst hc => ?_⟩
  · rw [take_refused hready (by omega) (.inr ⟨hlen, hreply.trans (if_pos hst)⟩)]
  · rw [if_neg (not_not_intro hst)] at hreply
    rw [take_refused hready (by omega) (.inr ⟨hlen, hreply.trans (if_pos (hclash.mpr hc))⟩)]
  · have hfree := mt hclash.mp hc
    rw [if_neg (not_not_intro hst)] at hreply
    refine ⟨_, congrArg _ (take_enableFeed hready hroom hlen (hreply.trans (if_neg hfree))),
      ?_, ?_, responded_otherFeedsKept _ _ _ _ _ (enable_otherFeedsKept f (fixJoin s)), ?_,
      responded_requests .., ?_, ?_⟩
    · rw [responded_feed, enable_feed_self (by exact hst), fixJoin_feed]
    · rw [responded_matchFeed]; exact matchFeed_enable (s := fixJoin s) hst hfree
    · rw [responded_flagsOf, enable_flagsOf_self (by exact hst), fixJoin_flagsOf]
    · rw [responded_getLast_tx]; simp [responseTo, enable]
    · rw [responded, enable_writes]; rfl

/-! ### OPEN CLIP (R11, R5, R84) -/

/-- The record that an opening takes is FREE, and the lowest-numbered that is: the numbers are searched in
order. -/
theorem freeRecord_eq_some {s : State} {c : ClipNo} (h : freeRecord s = some c) :
    (s.clip c).state = .free ∧ ∀ d : ClipNo, (s.clip d).state = .free → c ≤ d := by
  obtain ⟨hc, as, bs, hsplit, hbefore⟩ := List.find?_eq_some_iff_append.mp h
  refine ⟨by simpa using hc, fun d hd => ?_⟩
  have hsorted : (as ++ c :: bs).Pairwise (· < ·) := hsplit ▸ List.pairwise_lt_finRange 64
  have hmem : d ∈ as ++ c :: bs := hsplit ▸ List.mem_finRange d
  rcases List.mem_append.mp hmem with has | hcbs
  · exact absurd hd (by simpa using hbefore d has)
  · rcases List.mem_cons.mp hcbs with rfl | hbs
    · exact le_rfl
    · exact ((List.pairwise_cons.mp (List.pairwise_append.mp hsorted).2.1).1 d hbs).le

theorem freeRecord_eq_none {s : State} :
    freeRecord s = none ↔ ∀ c : ClipNo, (s.clip c).state ≠ .free := by
  simp [freeRecord]

/-- No clip can be opened for a feed without a FREE record or without three handles in its range. -/
theorem openable_eq_none {f : FeedNo} {s : State} :
    openable f s = none ↔ (∀ c : ClipNo, (s.clip c).state ≠ .free) ∨
      (s.feed f).cfg.handleCeiling.toNat < (s.feed f).cfg.handleNext.toNat + 2 := by
  rw [openable, ← freeRecord_eq_none]
  by_cases h : handlesLeft (s.feed f).cfg = true
  · have := of_decide_eq_true h
    rw [if_pos h]
    exact ⟨.inl, fun hn => hn.resolve_right (by omega)⟩
  · have := of_decide_eq_false (Bool.eq_false_of_not_eq_true h)
    rw [if_neg h]
    exact ⟨fun _ => .inr (by omega), fun _ => rfl⟩

@[simp] theorem openable_fixJoin (f : FeedNo) (s : State) : openable f (fixJoin s) = openable f s := rfl

theorem openable_eq_some {f : FeedNo} {s : State} {c : ClipNo} (h : openable f s = some c) :
    handlesLeft (s.feed f).cfg = true ∧ freeRecord s = some c := by
  unfold openable at h
  split at h
  · exact ⟨‹_›, h⟩
  · cases h

/-- With three handles left, handle next goes on by three, or to its end. -/
theorem handleAfter_toNat {cfg : FeedConfig} (h : handlesLeft cfg = true) :
    (handleAfter cfg.handleNext).toNat =
      if cfg.handleNext.toNat = 4294967293 then 4294967295 else cfg.handleNext.toNat + 3 := by
  have hleft := of_decide_eq_true h
  have hceiling := cfg.handleCeiling.isLt
  unfold handleAfter
  split
  · rfl
  · rw [BitVec.toNat_add, Nat.mod_eq_of_lt] <;> simp
    omega

/-- An OPEN CLIP with a bad label present byte, or with a named label that is not valid, has no label; any
other has the named label's count or the entry's own (R11 step 2). -/
theorem labelAsked_eq (f : FeedNo) (body : List Byte) (s : State) :
    let named := field 1 1 body = 1
    let label := if named then labelAt 2 body else (s.feed f).cfg.startLabel
    labelAsked f body s =
      if 1 < field 1 1 body ∨ (named ∧ labelValid (s.feed f).cfg.period label = false) then none
      else some (labelCount (s.feed f).cfg.period label) := by
  unfold labelAsked
  match field 1 1 body with
  | 0 => simp [boolOfCode, ownLabel]
  | 1 =>
    cases hv : labelValid (s.feed f).cfg.period (labelAt 2 body) <;> simp [boolOfCode, hv]
  | n + 2 => simp [boolOfCode]

@[simp] theorem labelAsked_fixJoin (f : FeedNo) (body : List Byte) (s : State) :
    labelAsked f body (fixJoin s) = labelAsked f body s := rfl

theorem openClipOn_feed_self (c : ClipNo) (f : FeedNo) (l : Nat) (o : Option (Tick × Tick)) (s : State) :
    (openClipOn c f l o s).feed f =
      { s.feed f with
        clip := some c,
        cfg := { (s.feed f).cfg with handleNext := handleAfter (s.feed f).cfg.handleNext } } := by
  simp [openClipOn]

theorem openClipOn_feed_other (c : ClipNo) {f x : FeedNo} (l : Nat) (o : Option (Tick × Tick)) (s : State)
    (h : x ≠ f) : (openClipOn c f l o s).feed x = s.feed x := by
  simp [openClipOn, h]

theorem openClipOn_clip_self (c : ClipNo) (f : FeedNo) (l : Nat) (o : Option (Tick × Tick)) (s : State) :
    (openClipOn c f l o s).clip c = newClip f l o (s.feed f).cfg := by
  simp [openClipOn]

theorem openClipOn_clip_other {c x : ClipNo} (f : FeedNo) (l : Nat) (o : Option (Tick × Tick)) (s : State)
    (h : x ≠ c) : (openClipOn c f l o s).clip x = s.clip x := by
  simp [openClipOn, h]

theorem openClipOn_tx_length_le (c : ClipNo) (f : FeedNo) (l : Nat) (o : Option (Tick × Tick)) {s : State}
    (hj : s.mu.joined = none) : (openClipOn c f l o s).mu.tx.length ≤ s.mu.tx.length + 1 :=
  le_of_le_of_eq (notify_tx_length_le _ _ _ (by simpa using hj)) (by simp)

/-- A feed outside RECORDING for which a clip is opened records it, with starved count 0 and three handles
fewer. -/
theorem openForFeed_feed_self (c : ClipNo) {f : FeedNo} (l : Nat) {s : State}
    (h : (s.feed f).state ≠ .recording) :
    (openForFeed c f l s).feed f =
      { s.feed f with
        state := .recording, clip := some c, starved := 0,
        cfg := { (s.feed f).cfg with handleNext := handleAfter (s.feed f).cfg.handleNext } } := by
  rw [openForFeed, setFeedState_feed_self (by rwa [openClipOn_feed_self]), openClipOn_feed_self]
  rfl

theorem openForFeed_flagsOf_self (c : ClipNo) {f : FeedNo} (l : Nat) {s : State}
    (h : (s.feed f).state ≠ .recording) :
    (openForFeed c f l s).flagsOf f = s.flagsOf f ||| 0x01 := by
  rw [openForFeed, setFeedState_flagsOf_self (by rwa [openClipOn_feed_self])]
  simp

theorem openForFeed_otherFeedsKept (c : ClipNo) (f : FeedNo) (l : Nat) (s : State) :
    OtherFeedsKept f s (openForFeed c f l s) := by
  intro g hg
  simp [openForFeed, setFeedState_feed_other, setFeedState_flagsOf_other, openClipOn_feed_other, hg]

/-- The record of a clip opened for a feed is that of a clip without an origin. -/
theorem openForFeed_clip_self (c : ClipNo) (f : FeedNo) (l : Nat) (s : State) :
    (openForFeed c f l s).clip c = newClip f l none (s.feed f).cfg := by
  simp [openForFeed, openClipOn_clip_self]

theorem openForFeed_clip_other {c x : ClipNo} (f : FeedNo) (l : Nat) (s : State) (h : x ≠ c) :
    (openForFeed c f l s).clip x = s.clip x := by
  simp [openForFeed, openClipOn_clip_other, h]

/-- Opening a clip writes the Feed Table, the Clip Table and the Management Unit alone. -/
theorem openForFeed_writes (c : ClipNo) (f : FeedNo) (l : Nat) (s : State) :
    openForFeed c f l s =
      { s with
        feeds := (openForFeed c f l s).feeds, clips := (openForFeed c f l s).clips,
        mu := (openForFeed c f l s).mu } := by
  apply State.ext <;> simp

/-- Where no notice can meet a join, opening a clip takes at most two places of the transmit queue. -/
theorem openForFeed_tx_length_le (c : ClipNo) (f : FeedNo) (l : Nat) {s : State}
    (hj : s.mu.joined = none) : (openForFeed c f l s).mu.tx.length ≤ s.mu.tx.length + 2 := by
  have hclip := openClipOn_tx_length_le c f l none hj
  have hfeed := setFeedState_tx_length_le f .recording (openClipOn_unmet c f l none s hj).1
  rw [openForFeed]
  omega

theorem exec_openClip {s : State} (h : s.resetLine = false) :
    exec .openClip s = .next (take .openClip openClipReply s) := running_next h

/-- An OPEN CLIP outside IDLE is refused; in IDLE its label and then the record it would take decide. -/
theorem openClipReply_eq {body : List Byte} {f : FeedNo} (h : field 0 1 body = f.val) (s : State) :
    openClipReply body s =
      if (s.feed f).state ≠ .idle then .refused .state
      else (labelAsked f body s).elim (.refused .badValue) fun l =>
        (openable f s).elim (.refused .noRoom) fun c =>
          .accepted (be 1 c) (openForFeed c f l s) := by
  rw [openClipReply, withFeed_of_field h]
  cases labelAsked f body s <;> cases openable f s <;> rfl

/-- An accepted OPEN CLIP is answered DONE, with the clip number, behind its effect. -/
theorem take_openClip {r : Request} {rs : List Request} {f : FeedNo} {s : State} {c : ClipNo} {l : Nat}
    (h : ReadyFor .openClip r rs s) (hr : TxRoomFor 3 s) (hl : 6 ≤ r.body.length)
    (hg : openClipReply r.body (fixJoin s) = .accepted (be 1 c) (openForFeed c f l (fixJoin s))) :
    take .openClip openClipReply s = responded r rs .done (be 1 c) (openForFeed c f l (fixJoin s)) := by
  obtain ⟨hj, hq, hw, _⟩ := openForFeed_unmet c f l _ (fixJoin_mu_joined s)
  have htx := openForFeed_tx_length_le c f l (fixJoin_mu_joined s)
  refine take_accepted h (by decide) hl hg hj hq hw ?_
  simp only [fixJoin_mu_tx] at htx
  omega

/-- Settles O21: the three refusals in the order of the reply, and the effect `openForFeed` where none of
them applies. -/
theorem openClipOpensTheLowestFreeRecord : Obligations.OpenClipOpensTheLowestFreeRecord := by
  intro r rs f s hready hroom hlen hfeed named label h
  have hreply := openClipReply_eq hfeed (fixJoin s)
  rw [fixJoin_feed, labelAsked_fixJoin, openable_fixJoin] at hreply
  have hlabelled := labelAsked_eq f r.body s
  rw [exec_openClip hready.1]
  by_cases hstate : (s.feed f).state ≠ .idle
  · rw [if_pos hstate, take_refused hready (by omega) (.inr ⟨hlen, hreply.trans (if_pos hstate)⟩)]
  rw [if_neg hstate]
  replace hreply := hreply.trans (if_neg hstate)
  by_cases hlabel : 1 < field 1 1 r.body ∨ (named ∧ labelValid (s.feed f).cfg.period label = false)
  · rw [hlabelled.trans (if_pos hlabel)] at hreply
    rw [if_pos hlabel, take_refused hready (by omega) (.inr ⟨hlen, hreply⟩)]
  rw [if_neg hlabel]
  rw [hlabelled.trans (if_neg hlabel)] at hreply
  by_cases hfull : (∀ c : ClipNo, (s.clip c).state ≠ .free) ∨
      (s.feed f).cfg.handleCeiling.toNat < h.toNat + 2
  · rw [openable_eq_none.mpr hfull] at hreply
    rw [if_pos hfull, take_refused hready (by omega) (.inr ⟨hlen, hreply⟩)]
  rw [if_neg hfull]
  obtain ⟨c, hopen⟩ := Option.ne_none_iff_exists'.mp (mt openable_eq_none.mp hfull)
  rw [hopen] at hreply
  obtain ⟨hhandles, hrecord⟩ := openable_eq_some hopen
  obtain ⟨hfree, hlowest⟩ := freeRecord_eq_some hrecord
  have hidle : ((fixJoin s).feed f).state ≠ .recording := by
    rw [fixJoin_feed, not_not.mp hstate]; decide
  have hentry := openForFeed_feed_self c (labelCount (s.feed f).cfg.period label) hidle
  refine ⟨_, c, congrArg _ (take_openClip hready hroom hlen hreply), hfree, hlowest, ?_, ?_, ?_, ?_, ?_,
    fun d hd => ?_, responded_otherFeedsKept _ _ _ _ _ (openForFeed_otherFeedsKept c f _ (fixJoin s)), ?_,
    ?_, responded_requests .., ?_⟩
  · rw [responded_feed, hentry]
  · rw [responded_feed, hentry]
  · rw [responded_feed, hentry]
  · rw [responded_feed, hentry]; exact handleAfter_toNat hhandles
  · rw [responded_clip, openForFeed_clip_self]; rfl
  · rw [responded_clip, openForFeed_clip_other _ _ _ hd, fixJoin_clip]
  · rw [responded_flagsOf, openForFeed_flagsOf_self _ _ hidle, fixJoin_flagsOf]
  · rw [responded, openForFeed_writes]; rfl
  · rw [responded_getLast_tx]; simp [responseTo, be]

end Sys2Proof.Machine
end

section
/-! PROOFS. FA_TAKE_UNIT: the steps of R38 for a unit with an open context, and the duplicate (R39, R42). -/

namespace Sys2Proof.Machine

/-! ### What the tests of a unit say (R37, R39) -/

theorem covers_iff {x : Context} {k : Nat} : covers x k = true ↔ k ∈ x.units.map Prod.fst := by
  simp [covers]

theorem lengthOk_iff {unitSize : Nat} {last : Bool} {len : Nat} :
    lengthOk unitSize last len = true ↔
      if last then 1 ≤ len ∧ len ≤ unitSize else len = unitSize := by
  cases last <;> simp [lengthOk]

/-! ### The steps of R38 -/

/-- The FA puts the unit it takes through the steps of R38. -/
theorem exec_faTakeUnit {f : FeedNo} {u : HandedUnit} {s : State} (h : Taking f u s) :
    exec (.faTakeUnit f) s = .next (assemble f u { s with handedUnits := s.handedUnits.erase u }) := by
  obtain ⟨hreset, hunit, -⟩ := h
  calc exec (.faTakeUnit f) s
      = .next (takeUnit f s) := running_next hreset
    _ = _ := by rw [takeUnit, hunit]

/-- A stamp with a context opens none (R40). -/
theorem findOrOpen_of_open {f : FeedNo} {u : HandedUnit} {x : Context} {s : State}
    (h : contextFor f u.stamp s = some x) : findOrOpen f u s = s := by
  rw [contextFor] at h
  have hstamp := List.find?_some h
  rw [findOrOpen, if_pos (List.any_eq_true.mpr ⟨x, List.mem_of_find?_eq_some h, hstamp⟩)]

/-- A unit of a right length goes to the open context of its stamp (R38, R39). -/
theorem assemble_of_open {f : FeedNo} {u : HandedUnit} {x : Context} {s : State}
    (hstate : (s.feed f).state = .recording)
    (hlen : lengthOk (s.feed f).cfg.unitSize u.last u.length = true)
    (hctx : contextFor f u.stamp s = some x) : assemble f u s = judgeUnit f u x s := by
  rw [assemble, if_neg (not_not.mpr hstate), if_pos hlen, findOrOpen_of_open hctx]
  simp only [hctx]

theorem judgeUnit_of_covered {f : FeedNo} {u : HandedUnit} {x : Context} {s : State}
    (h : covers x u.number = true) :
    judgeUnit f u x s = countFeed f (fun k => { k with duplicate := bump k.duplicate }) s :=
  if_pos h

/-- Settles O13: the length test passes the unit on to its open context, whose first test is for a
duplicate. -/
theorem coveredUnitIsADuplicate : Obligations.CoveredUnitIsADuplicate := by
  intro f u x s htaking hlen hctx hcovered
  let taken : State := { s with handedUnits := s.handedUnits.erase u }
  have ⟨_, _, hrecording⟩ := htaking
  have hstate : (taken.feed f).state = .recording := hrecording
  have hopen : contextFor f u.stamp taken = some x := hctx
  calc exec (.faTakeUnit f) s
      = .next (assemble f u taken) := exec_faTakeUnit htaking
    _ = .next (judgeUnit f u x taken) := by
      rw [assemble_of_open hstate (lengthOk_iff.mpr hlen) hopen]
    _ = _ := congrArg _ (judgeUnit_of_covered (covers_iff.mpr hcovered))

end Sys2Proof.Machine
end

section
/-! PROOFS. WRITE_ANSWER: the abort of a write at a FAULT answer, the failure of its clip, and what every
other effect of the same event leaves of both (R127, R133, R134, R97). -/

namespace Sys2Proof.Machine

/-! ### What a failed clip keeps (R94, R97, R113) -/

theorem state_ne_failed_of_eligible {k : Clip} (h : eligible k = true) : k.state ≠ .failed := by
  unfold eligible at h
  split at h
  · cases h
  · simpa using (Bool.and_eq_true _ _ |>.mp h).2

theorem state_ne_failed_of_lateHoleSegment {c : ClipNo} {segment : Nat} {s : State} {g : Segment}
    (h : lateHoleSegment c segment s = some g) : (s.clip c).state ≠ .failed := by
  unfold lateHoleSegment at h
  split at h
  · cases h
  · split at h
    case isTrue hr => simp [hr.1]
    case isFalse => cases h

theorem handIndex_clip_other {c d : ClipNo} (h : c ≠ d) (s : State) :
    (handIndex d s).clip c = s.clip c := by
  unfold handIndex
  split
  · rfl
  · have hne : (d : Nat) ≠ c := fun hdc => h (Fin.ext hdc.symm)
    simp [State.clip, hne]

section
variable {c : ClipNo} {s : State}

/-- The eligibility test writes no failed clip: such a clip has no eligible segment (R94). -/
theorem testEligible_clip_of_failed (h : (s.clip c).state = .failed) (x : Nat) (d : ClipNo) :
    (testEligible x d s).clip c = s.clip c := by
  unfold testEligible
  split
  case isTrue he =>
    refine handIndex_clip_other ?_ s
    rintro rfl
    exact state_ne_failed_of_eligible ((Bool.and_eq_true _ _).mp he).1 h
  case isFalse => rfl

theorem offerIndex_clip_of_failed (h : (s.clip c).state = .failed) :
    (offerIndex s).clip c = s.clip c := by
  unfold offerIndex
  split
  · rfl
  · exact testEligible_clip_of_failed h 0 _

theorem reportFreed_clip_of_failed (h : (s.clip c).state = .failed) (e : WriteEntry) :
    (reportFreed e s).clip c = s.clip c := by
  unfold reportFreed
  split
  · exact offerIndex_clip_of_failed h
  · rfl

theorem reportFreed_foldl_clip_of_failed (h : (s.clip c).state = .failed) (es : List WriteEntry) :
    (es.foldl (fun s e => reportFreed e s) s).clip c = s.clip c := by
  induction es generalizing s with
  | nil => rfl
  | cons e es ih =>
    have he := reportFreed_clip_of_failed h e
    rw [List.foldl_cons, ih (by rw [he, h]), he]

/-- Removing the writes of failed clips writes no failed clip. -/
theorem removeAll_clip_of_failed (h : (s.clip c).state = .failed) (es : List WriteEntry) :
    (removeAll es s).clip c = s.clip c := by
  have hgone : (es.foldl (fun s e => removeAsFailed e s) s).clip c = s.clip c := by simp
  rw [removeAll, reportFreed_foldl_clip_of_failed (by rw [hgone, h]), hgone]

end


/-! ### The failure of a clip (R97) -/

/-- A failing clip at the point where its closed segments, reductions and queued writes are gone, and the
recording of its feed stands. -/
def failedInPlace (c : ClipNo) (aborted : Bool) (s : State) : State :=
  removeQueued c (removeReductions (fun r => r.clip == c)
    (setClipState c .failed (modClip c (fun k => { k with closed := [], storeFailed := !aborted }) s)))

/-- What the failure of a clip does: nothing outside RECORDING and DRAINING, and in RECORDING it ends the
recording too. -/
theorem failClip_cases (c : ClipNo) (aborted : Bool) (s : State) :
    (¬((s.clip c).state = .recording ∨ (s.clip c).state = .draining) ∧ failClip c aborted s = s) ∨
    ((s.clip c).state = .draining ∧ failClip c aborted s = failedInPlace c aborted s) ∨
    ((s.clip c).state = .recording ∧ failClip c aborted s =
      leaveRecording (s.clip c).feed .idle (modClip c (fun k =>
        { k with openSeg := none, cursor := none, endReason := some .failed })
          (failedInPlace c aborted s))) := by
  unfold failClip failedInPlace
  by_cases hr : (s.clip c).state = .recording
  · exact .inr (.inr ⟨hr, by simp [hr]⟩)
  · by_cases hd : (s.clip c).state = .draining
    · exact .inr (.inl ⟨hd, by simp [hd]⟩)
    · exact .inl ⟨by simp [hr, hd], by simp [hr, hd]⟩

/-- The clip's own reductions and writes are removed without a further change of its record. -/
theorem failedInPlace_clip (c : ClipNo) (aborted : Bool) (s : State) :
    (failedInPlace c aborted s).clip c =
      { s.clip c with closed := [], storeFailed := !aborted, state := .failed } := by
  have hfailed : (removeReductions (fun r => r.clip == c) (setClipState c .failed
      (modClip c (fun k => { k with closed := [], storeFailed := !aborted }) s))).clip c =
      { s.clip c with closed := [], storeFailed := !aborted, state := .failed } := by
    simp [setClipState]
  rw [failedInPlace, removeQueued, removeAll_clip_of_failed (by rw [hfailed]), hfailed]

/-- The clip is FAILED and placed no more. -/
def Ended (k : Clip) : Prop := k.state = .failed ∧ k.cursor = none

/-- A clip that fails has ended, has no closed segments, and keeps its frontier. -/
theorem failClip_clip {c : ClipNo} {s : State}
    (hlive : (s.clip c).state = .recording ∨ (s.clip c).state = .draining)
    (hdrained : (s.clip c).state = .draining → (s.clip c).cursor = none) (aborted : Bool) :
    Ended ((failClip c aborted s).clip c) ∧ ((failClip c aborted s).clip c).closed = [] ∧
      ((failClip c aborted s).clip c).frontier = (s.clip c).frontier := by
  have hplace := failedInPlace_clip c aborted s
  rcases failClip_cases c aborted s with ⟨hnot, _⟩ | ⟨hdraining, heq⟩ | ⟨_, heq⟩
  · exact absurd hlive hnot
  · rw [heq, hplace]
    exact ⟨⟨rfl, hdrained hdraining⟩, rfl, rfl⟩
  · rw [heq]
    simp [hplace, Ended]

theorem failByAbort_clip (e : WriteEntry) (s : State) (c : ClipNo) :
    (failByAbort e s).clip c = (failClip e.clip true s).clip c := by
  unfold failByAbort
  dsimp only
  split <;> simp

/-! ### Flags of an abort record (R134) -/

/-- Flags that are set stay set beside others. -/
theorem and_eq_of_or {w : Nat} {a b : BitVec w} (h : a &&& b = b) (x : BitVec w) :
    (a ||| x) &&& b = b := by
  rw [BitVec.and_comm, BitVec.and_or_distrib_left, BitVec.and_comm b a, h]
  exact BitVec.eq_of_getLsbD_eq fun i _ => by cases hb : b.getLsbD i <;> simp [hb]

/-- The reason's flag joins those of the class's record, and FEED_STOPPED may join with it. -/
theorem setAbortFlag_records (cls : WriteClass) (c : ClipNo) (r : AbortReason) (s : State) :
    ∃ extra, (setAbortFlag cls c r s).sw.records =
      s.sw.records.modify cls (fun old => old ||| r.bit ||| extra) := by
  refine ⟨if (s.feed (s.clip c).feed).state = .off then AbortReason.bit .feedStopped else 0, ?_⟩
  by_cases hold : s.sw.records.get cls = 0
  · simp only [setAbortFlag, if_pos hold, notify_frame]
    cases cls <;> rfl
  · simp only [setAbortFlag, if_neg hold]
    cases cls <;> rfl

/-! ### The clip that a feed places into (R63) -/

theorem cursor_of_recordingClip {f : FeedNo} {s : State} {c : ClipNo} {u : Cursor}
    (h : recordingClip f s = some (c, u)) : (s.clip c).cursor = some u := by
  unfold recordingClip at h
  split at h
  · split at h
    · cases h
    · obtain ⟨v, hv, heq⟩ := Option.map_eq_some_iff.mp h
      cases heq
      exact hv
  · cases h

theorem recordingClip_of_headOf_ready {f : FeedNo} {s : State} {c : ClipNo} {e : RingEntry}
    (h : headOf f s = .ready c e) : ∃ u, recordingClip f s = some (c, u) := by
  unfold headOf at h
  split at h
  case h_1 c' u e' _ hrec _ =>
    refine ⟨u, ?_⟩
    rw [hrec]
    split at h
    · cases h
    · split at h
      · cases h; rfl
      · split at h
        · cases h; rfl
        · cases h
  case h_2 => cases h

/-! ### What stands once a write has been taken out -/

/-- A class's counters of answers, timeouts and aborts alone. -/
def outcomes (k : ClassCounters) : ClassCounters := { k with queued := 0, sends := 0, removed := 0 }

/-- The write numbered `n` is out of the queue for good, and since the state `s₀` no answer, timeout or
abort has been counted, no flag of an abort record cleared, and no ended clip written. Every effect that
follows an abort within its event keeps this: removals (R135), publication (R95), sends (R122), the results
of a step (R110) and the placements of freed entries (R69). -/
structure Aftermath (n : Nat) (s₀ s : State) : Prop where
  numbered : n < s.nextSerial
  gone : ∀ x ∈ s.sw.queue, x.serial ≠ n
  counts : ∀ k, outcomes (s.sw.counters.get k) = outcomes (s₀.sw.counters.get k)
  flags : ∀ k b, s₀.sw.records.get k &&& b = b → s.sw.records.get k &&& b = b
  clips : ∀ c, Ended (s₀.clip c) → s.clip c = s₀.clip c

namespace Aftermath

variable {n : Nat} {s₀ s : State}

theorem refl (hn : n < s.nextSerial) (hg : ∀ x ∈ s.sw.queue, x.serial ≠ n) : Aftermath n s s :=
  ⟨hn, hg, fun _ => rfl, fun _ _ h => h, fun _ _ => rfl⟩

theorem fault_eq (h : Aftermath n s₀ s) (k : WriteClass) :
    (s.sw.counters.get k).fault = (s₀.sw.counters.get k).fault :=
  (congrArg ClassCounters.fault (h.counts k) :)

theorem aborts_eq (h : Aftermath n s₀ s) (k : WriteClass) :
    (s.sw.counters.get k).aborts = (s₀.sw.counters.get k).aborts :=
  (congrArg ClassCounters.aborts (h.counts k) :)

/-- A clip that has not ended now had not ended before. -/
theorem live (h : Aftermath n s₀ s) {c : ClipNo} (hc : ¬Ended (s.clip c)) : ¬Ended (s₀.clip c) :=
  fun he => hc (by rwa [h.clips c he])

theorem live_of_state (h : Aftermath n s₀ s) {c : ClipNo} (hc : (s.clip c).state ≠ .failed) :
    ¬Ended (s₀.clip c) :=
  h.live fun he => hc he.1

theorem live_of_cursor (h : Aftermath n s₀ s) {c : ClipNo} {u : Cursor}
    (hc : (s.clip c).cursor = some u) : ¬Ended (s₀.clip c) :=
  h.live fun he => by simp [he.2] at hc

theorem live_of_recordingClip (h : Aftermath n s₀ s) {f : FeedNo} {c : ClipNo} {u : Cursor}
    (hc : recordingClip f s = some (c, u)) : ¬Ended (s₀.clip c) :=
  h.live_of_cursor (cursor_of_recordingClip hc)

/-- An operation that writes only clips that had not ended. -/
theorem of_clips (h : Aftermath n s₀ s) {t : State} (hsw : t.sw = s.sw)
    (hn : t.nextSerial = s.nextSerial) (hclips : ∀ c, Ended (s₀.clip c) → t.clip c = s.clip c) :
    Aftermath n s₀ t where
  numbered := hn ▸ h.numbered
  gone := hsw ▸ h.gone
  counts := hsw ▸ h.counts
  flags := hsw ▸ h.flags
  clips c hc := (hclips c hc).trans (h.clips c hc)

/-- An operation whose frame holds the Storage Writer, the clips and the numbers. -/
theorem of_frame (h : Aftermath n s₀ s) {t : State} (hsw : t.sw = s.sw := by simp)
    (hclips : t.clips = s.clips := by simp) (hn : t.nextSerial = s.nextSerial := by simp) :
    Aftermath n s₀ t :=
  h.of_clips hsw hn fun c _ => by rw [State.clip, State.clip, hclips]

/-! The clips, the numbers and the write queue. -/

theorem modClip (h : Aftermath n s₀ s) {c : ClipNo} (hc : ¬Ended (s₀.clip c)) (g : Clip → Clip) :
    Aftermath n s₀ (modClip c g s) :=
  h.of_clips rfl rfl fun _ hx => modClip_clip_other _ _ _ _ fun hxc => hc (hxc ▸ hx)

theorem modCursor (h : Aftermath n s₀ s) {c : ClipNo} (hc : ¬Ended (s₀.clip c)) (g : Cursor → Cursor) :
    Aftermath n s₀ (modCursor c g s) :=
  h.modClip hc _

theorem notify (h : Aftermath n s₀ s) (k : NoticeKind) (subject detail : Nat) :
    Aftermath n s₀ (notify k subject detail s) :=
  h.of_frame

theorem setClipState (h : Aftermath n s₀ s) {c : ClipNo} (hc : ¬Ended (s₀.clip c)) (st : ClipState) :
    Aftermath n s₀ (setClipState c st s) :=
  (h.modClip hc _).notify _ _ _

theorem number (h : Aftermath n s₀ s) : Aftermath n s₀ { s with nextSerial := s.nextSerial + 1 } :=
  { h with numbered := Nat.lt_succ_of_lt h.numbered, clips := h.clips }

theorem countClass (h : Aftermath n s₀ s) (cls : WriteClass) {g : ClassCounters → ClassCounters}
    (hg : ∀ k, outcomes (g k) = outcomes k) : Aftermath n s₀ (countClass cls g s) where
  numbered := h.numbered
  gone := h.gone
  counts k := by
    rw [← h.counts k]
    by_cases hk : k = cls
    · subst hk
      exact (congrArg outcomes (PerClass.get_modify_self ..)).trans (hg _)
    · exact congrArg outcomes (PerClass.get_modify_of_ne _ _ hk)
  flags := h.flags
  clips := h.clips

theorem modEntry (h : Aftermath n s₀ s) (m : Nat) {g : WriteEntry → WriteEntry}
    (hg : ∀ x, (g x).serial = x.serial) : Aftermath n s₀ (modEntry m g s) where
  numbered := h.numbered
  gone x hx := by
    obtain ⟨y, hy, rfl⟩ := List.mem_map.mp hx
    have := h.gone y hy
    split
    · rwa [hg]
    · exact this
  counts := h.counts
  flags := h.flags
  clips := h.clips

theorem removeEntry (h : Aftermath n s₀ s) (m : Nat) : Aftermath n s₀ (removeEntry m s) :=
  { h with gone := fun x hx => h.gone x (List.mem_filter.mp hx).1, clips := h.clips }

theorem sendOne (h : Aftermath n s₀ s) (e : WriteEntry) (id : BitVec 8) :
    Aftermath n s₀ (sendOne e id s) := by
  have hsent : Aftermath n s₀ (Machine.modEntry e.serial (fun x =>
      { x with flight := some ⟨id, s.nextSerial, none⟩, sentBefore := true }) s) :=
    h.modEntry _ fun _ => rfl
  unfold Machine.sendOne
  refine Aftermath.countClass ?_ e.cls fun _ => rfl
  exact { hsent.number with clips := hsent.clips }

theorem arbiterRun (h : Aftermath n s₀ s) (m : Nat) : Aftermath n s₀ (arbiterRun m s) := by
  induction m generalizing s with
  | zero => exact h
  | succ m ih =>
    unfold Machine.arbiterRun
    split
    · split
      · exact ih (h.sendOne _ _)
      · exact h
    · exact h

theorem arbitrate (h : Aftermath n s₀ s) : Aftermath n s₀ (arbitrate s) := h.arbiterRun 16

/-- A new write has another number. -/
theorem enqueue (h : Aftermath n s₀ s) {m : Nat} (hm : m ≠ n) (cls : WriteClass) (c : ClipNo)
    (g : Nat) (hd : Handle) (off len : Nat) (d : WriteData) :
    Aftermath n s₀ (enqueue m cls c g hd off len d s) := by
  unfold Machine.enqueue
  refine arbitrate (countClass ?_ cls fun _ => rfl)
  refine { h with gone := fun x hx => ?_, clips := h.clips }
  rcases List.mem_append.mp hx with hold | hnew
  · exact h.gone x hold
  · rw [List.mem_singleton.mp hnew]
    exact hm

/-! Abort records, and what an entry that left the queue holds. -/


theorem setAbortFlag (h : Aftermath n s₀ s) (cls : WriteClass) (c : ClipNo) (r : AbortReason) :
    Aftermath n s₀ (setAbortFlag cls c r s) where
  numbered := by simpa using h.numbered
  gone := by simpa using h.gone
  counts := by simpa using h.counts
  flags k b hb := by
    have hkept := h.flags k b hb
    obtain ⟨extra, hrecords⟩ := setAbortFlag_records cls c r s
    rw [hrecords]
    by_cases hk : k = cls
    · subst hk
      rw [PerClass.get_modify_self]
      exact and_eq_of_or (and_eq_of_or hkept _) _
    · rwa [PerClass.get_modify_of_ne _ _ hk]
  clips := by simpa using h.clips

theorem returnAfterPort (h : Aftermath n s₀ s) (m : Nat) (r : LateReturn) :
    Aftermath n s₀ (returnAfterPort m r s) where
  numbered := by simpa using h.numbered
  gone := by simpa using h.gone
  counts := by simpa using h.counts
  flags := by simpa using h.flags
  clips := by simpa using h.clips

theorem releaseData (h : Aftermath n s₀ s) (e : WriteEntry) : Aftermath n s₀ (releaseData e s) := by
  unfold Machine.releaseData
  split
  · exact h.returnAfterPort _ _
  · exact h.returnAfterPort _ _
  · exact h

/-! Publication and removals (R94, R95, R135). -/

theorem handIndex (h : Aftermath n s₀ s) {c : ClipNo} (hc : ¬Ended (s₀.clip c)) :
    Aftermath n s₀ (handIndex c s) := by
  unfold Machine.handIndex
  split
  · exact h
  · exact (h.modClip hc _).number.enqueue (Nat.ne_of_gt h.numbered) ..

theorem testEligible (h : Aftermath n s₀ s) (extra : Nat) (c : ClipNo) :
    Aftermath n s₀ (testEligible extra c s) := by
  unfold Machine.testEligible
  split
  case isTrue he =>
    exact h.handIndex (h.live_of_state (state_ne_failed_of_eligible ((Bool.and_eq_true _ _).mp he).1))
  case isFalse => exact h

theorem offerIndex (h : Aftermath n s₀ s) : Aftermath n s₀ (offerIndex s) := by
  unfold Machine.offerIndex
  split
  · exact h
  · exact h.testEligible 0 _

theorem removeAsFailed (h : Aftermath n s₀ s) (e : WriteEntry) :
    Aftermath n s₀ (removeAsFailed e s) := by
  have hcounted := h.countClass e.cls (g := fun k => { k with removed := bump k.removed }) fun _ => rfl
  unfold Machine.removeAsFailed
  dsimp only
  split
  · exact (hcounted.removeEntry _).releaseData e
  · exact ((hcounted.setAbortFlag _ _ _).removeEntry _).releaseData e

theorem reportFreed (h : Aftermath n s₀ s) (e : WriteEntry) : Aftermath n s₀ (reportFreed e s) := by
  unfold Machine.reportFreed
  split
  · exact h.offerIndex
  · exact h

/-- What each step of a fold keeps, the fold keeps. -/
theorem foldl {α : Type} {g : State → α → State} (h : Aftermath n s₀ s)
    (hg : ∀ {s}, Aftermath n s₀ s → ∀ a, Aftermath n s₀ (g s a)) (l : List α) :
    Aftermath n s₀ (l.foldl g s) := by
  induction l generalizing s with
  | nil => exact h
  | cons a l ih => exact ih (hg h a)

theorem removeAll (h : Aftermath n s₀ s) (es : List WriteEntry) : Aftermath n s₀ (removeAll es s) :=
  (h.foldl removeAsFailed es).foldl reportFreed es

theorem removeReductions (h : Aftermath n s₀ s) (p : Reduction → Bool) :
    Aftermath n s₀ (removeReductions p s) :=
  h.of_frame

theorem leaveRecording (h : Aftermath n s₀ s) (f : FeedNo) (st : FeedState) :
    Aftermath n s₀ (leaveRecording f st s) :=
  h.of_frame

/-- A clip that fails had not ended. -/
theorem failClip (h : Aftermath n s₀ s) (c : ClipNo) (aborted : Bool) :
    Aftermath n s₀ (failClip c aborted s) := by
  have hplace (hc : (s.clip c).state ≠ .failed) : Aftermath n s₀ (failedInPlace c aborted s) :=
    (((h.modClip (h.live_of_state hc) _).setClipState (h.live_of_state hc) _).removeReductions
      _).removeAll _
  rcases failClip_cases c aborted s with ⟨_, heq⟩ | ⟨hstate, heq⟩ | ⟨hstate, heq⟩
  · rwa [heq]
  · rw [heq]
    exact hplace (by simp [hstate])
  · have hc : (s.clip c).state ≠ .failed := by simp [hstate]
    rw [heq]
    exact ((hplace hc).modClip (h.live_of_state hc) _).leaveRecording _ _

theorem failByAbort (h : Aftermath n s₀ s) (e : WriteEntry) : Aftermath n s₀ (failByAbort e s) := by
  unfold Machine.failByAbort
  dsimp only
  split
  · exact (h.failClip _ _).returnAfterPort _ _
  · exact h.failClip _ _

/-! Segments and the end of placement (R85 to R92). -/

theorem keepRecord (h : Aftermath n s₀ s) {c : ClipNo} (hc : ¬Ended (s₀.clip c)) (g : Segment)
    (final : Option EndReason) : Aftermath n s₀ (keepRecord c g final s) :=
  (h.modClip hc _).testEligible 0 c

theorem applyPending (h : Aftermath n s₀ s) (f : FeedNo) : Aftermath n s₀ (applyPending f s) :=
  h.of_frame

theorem takeStaged (h : Aftermath n s₀ s) {c : ClipNo} (hc : ¬Ended (s₀.clip c)) :
    Aftermath n s₀ (takeStaged c s) := by
  unfold Machine.takeStaged
  dsimp only
  split
  · exact h
  · exact (h.modClip hc _).applyPending _

theorem openNext (h : Aftermath n s₀ s) {c : ClipNo} (hc : ¬Ended (s₀.clip c)) (number : Nat) :
    Aftermath n s₀ (openNext c number s) := by
  unfold Machine.openNext
  exact h.modClip hc _

theorem midClose (h : Aftermath n s₀ s) {c : ClipNo} (hc : ¬Ended (s₀.clip c)) :
    Aftermath n s₀ (midClose c s) := by
  unfold Machine.midClose
  split
  · exact h
  · have hcounted := h.modClip hc fun k => { k with segsClosed := k.segsClosed + 1 }
    dsimp only
    split
    · exact ((hcounted.keepRecord hc _ _).takeStaged hc).openNext hc _
    · exact hcounted.failClip c false

theorem endClip (h : Aftermath n s₀ s) {c : ClipNo} (hc : ¬Ended (s₀.clip c)) (why : EndReason) :
    Aftermath n s₀ (endClip c why s) := by
  unfold Machine.endClip
  refine Aftermath.setClipState ?_ hc _
  split
  · exact h.modClip hc _
  · split
    · exact (h.modClip hc _).keepRecord hc _ _
    · exact h.modClip hc _

theorem failAfterEnd (h : Aftermath n s₀ s) (room : Bool) (c : ClipNo) :
    Aftermath n s₀ (failAfterEnd room c s) := by
  unfold Machine.failAfterEnd
  split
  · exact h
  · exact h.failClip c false

theorem endRecording (h : Aftermath n s₀ s) {c : ClipNo} (hc : ¬Ended (s₀.clip c)) (f : FeedNo)
    (why : EndReason) (st : FeedState) : Aftermath n s₀ (endRecording f c why st s) :=
  ((h.endClip hc why).leaveRecording f st).failAfterEnd _ c

/-- A successor opens on a FREE record (R84). -/
theorem openClipOn (h : Aftermath n s₀ s) {d : ClipNo} (hd : (s.clip d).state = .free) (f : FeedNo)
    (label : Nat) (origin : Option (Tick × Tick)) : Aftermath n s₀ (openClipOn d f label origin s) := by
  have hlive : ¬Ended (s₀.clip d) := h.live_of_state (by simp [hd])
  exact h.of_clips (by simp) (by simp) fun c hc =>
    openClipOn_clip_other f label origin s fun hcd => hlive (hcd ▸ hc)

theorem recomputeRing (h : Aftermath n s₀ s) (f : FeedNo) : Aftermath n s₀ (recomputeRing f s) :=
  h.of_frame

theorem raiseFeed (h : Aftermath n s₀ s) (f : FeedNo) (d : FeedFlag) :
    Aftermath n s₀ (raiseFeed f d s) :=
  h.of_frame

theorem succeedClip (h : Aftermath n s₀ s) {c : ClipNo} (hc : ¬Ended (s₀.clip c)) (f : FeedNo)
    (why : EndReason) (origin : Tick × Tick) : Aftermath n s₀ (succeedClip f c why origin s) := by
  have hended := h.endClip hc why
  have hraised : Aftermath n s₀ (if why = .discontinuity
      then Machine.raiseFeed f .discontinuitySeen (Machine.endClip c why s)
      else Machine.endClip c why s) := by
    split
    · exact hended.raiseFeed _ _
    · exact hended
  have hready := hraised.applyPending f
  refine failAfterEnd ?_ _ c
  split
  case h_1 d hopen =>
    exact (hready.openClipOn (freeRecord_eq_some (openable_eq_some hopen).2).1 _ _ _).recomputeRing f
  case h_2 => exact hready.leaveRecording f .stalled

theorem limitTest (h : Aftermath n s₀ s) (f : FeedNo) (c : ClipNo) :
    Aftermath n s₀ (limitTest f c s) := by
  unfold Machine.limitTest
  split
  · exact h
  · rename_i hcursor
    have hc := h.live_of_cursor hcursor
    dsimp only
    split
    · split
      · exact h.succeedClip hc _ _ _
      · exact h.endRecording hc _ _ _
    · exact h

/-! The Browse Unit (R108 to R113). -/

theorem returnBlocks (h : Aftermath n s₀ s) (m : Nat) : Aftermath n s₀ (returnBlocks m s) :=
  h.of_frame

theorem endReductionHold (h : Aftermath n s₀ s) (m : Nat) : Aftermath n s₀ (endReductionHold m s) :=
  h.of_frame

theorem countBrowse (h : Aftermath n s₀ s) (g : BrowseCounters → BrowseCounters) :
    Aftermath n s₀ (countBrowse g s) :=
  h.of_frame

/-- A late hole is listed in the open segment of a clip in RECORDING alone. -/
theorem lateHole (h : Aftermath n s₀ s) (c : ClipNo) (segment pick : Nat) :
    Aftermath n s₀ (lateHole c segment pick s) := by
  unfold Machine.lateHole
  split
  case h_1 g hg => exact h.modClip (h.live_of_state (state_ne_failed_of_lateHoleSegment hg)) _
  case h_2 => exact h.countBrowse _

theorem shedNoBlocks (h : Aftermath n s₀ s) (r : Reduction) : Aftermath n s₀ (shedNoBlocks r s) :=
  ((h.countBrowse _).endReductionHold _).lateHole _ _ _

theorem requestOutputs (h : Aftermath n s₀ s) (rs : List Reduction) :
    Aftermath n s₀ (requestOutputs rs s).1 := by
  induction rs generalizing s with
  | nil => exact h
  | cons r rs ih =>
    unfold Machine.requestOutputs
    split
    · exact ih (h.shedNoBlocks r)
    · exact ih (h.of_frame)

theorem startStep (h : Aftermath n s₀ s) (m : Nat) : Aftermath n s₀ (startStep m s) := by
  induction m generalizing s with
  | zero => exact h
  | succ m ih =>
    unfold Machine.startStep
    split
    · exact h
    · have htaken := Aftermath.requestOutputs (s := { s with bu := { s.bu with
        queue := s.bu.queue.drop 2 } }) (h.of_frame) (s.bu.queue.take 2)
      dsimp only
      split
      · exact ih htaken
      · exact htaken.of_frame

theorem kickReducer (h : Aftermath n s₀ s) : Aftermath n s₀ (kickReducer s) := h.startStep _

theorem deliverLane (h : Aftermath n s₀ s) (r : Reduction) : Aftermath n s₀ (deliverLane r s) := by
  have hcounted := (h.countBrowse fun k => { k with delivered := bump k.delivered }).number
  unfold Machine.deliverLane
  refine endReductionHold (enqueue ?_ (Nat.ne_of_gt h.numbered) ..) _
  exact hcounted.of_frame

theorem finishLane (h : Aftermath n s₀ s) (r : Reduction) : Aftermath n s₀ (finishLane s r) := by
  rcases finishLane_cases s r with ⟨_, heq⟩ | ⟨_, _, heq⟩ | ⟨_, _, heq⟩ <;> rw [heq]
  · exact ((h.countBrowse _).returnBlocks _).endReductionHold _
  · exact h.deliverLane r
  · exact (((h.countBrowse _).returnBlocks _).lateHole _ _ _).endReductionHold _

theorem finishStep (h : Aftermath n s₀ s) : Aftermath n s₀ (finishStep s) := by
  rcases finishStep_cases s with ⟨_, heq⟩ | ⟨st, _, _, heq⟩ <;> rw [heq]
  · exact h
  · refine kickReducer (foldl ?_ finishLane st.lanes)
    exact h.of_frame

/-! Placement (R63 to R76). -/

theorem judgePick (h : Aftermath n s₀ s) (f : FeedNo) (c : ClipNo) (pick : Nat) (what : Placed) :
    Aftermath n s₀ (judgePick f c pick what s).1 :=
  h.of_frame

theorem browseStep (h : Aftermath n s₀ s) (f : FeedNo) {c : ClipNo} (hc : ¬Ended (s₀.clip c))
    (what : Placed) (mark : Bool) : Aftermath n s₀ (browseStep f c what mark s).1 := by
  unfold Machine.browseStep
  split
  · exact h
  · dsimp only
    split
    · exact (h.modCursor hc _).judgePick _ _ _ _
    · exact h.modCursor hc _

theorem shortClose (h : Aftermath n s₀ s) {c : ClipNo} (hc : ¬Ended (s₀.clip c)) (what : Placed)
    (out : BrowseOutcome) : Aftermath n s₀ (shortClose c what out s) := by
  unfold Machine.shortClose
  split
  · exact h
  · split
    · exact h.midClose hc
    · exact h

theorem closeAtS (h : Aftermath n s₀ s) {c : ClipNo} (hc : ¬Ended (s₀.clip c)) :
    Aftermath n s₀ (closeAtS c s) := by
  unfold Machine.closeAtS
  split
  · exact h
  · split
    · exact h.midClose hc
    · exact h

theorem countIndex (h : Aftermath n s₀ s) (f : FeedNo) {c : ClipNo} (hc : ¬Ended (s₀.clip c))
    (what : Placed) (mark : Bool) : Aftermath n s₀ (countIndex f c what mark s).1 := by
  have hclosed := (h.browseStep f hc what mark).shortClose hc what (Machine.browseStep f c what mark s).2
  unfold Machine.countIndex
  dsimp only
  split
  · exact hclosed
  · refine closeAtS (modClip ?_ hc _) hc
    split
    · exact hclosed.of_frame
    · exact hclosed

theorem setRing (h : Aftermath n s₀ s) (f : FeedNo) (r : List RingEntry) :
    Aftermath n s₀ (setRing f r s) :=
  h.of_frame

theorem placeFill (h : Aftermath n s₀ s) (f : FeedNo) {c : ClipNo} (hc : ¬Ended (s₀.clip c))
    (k : FillKind) (head : Bool) : Aftermath n s₀ (placeFill f c k head s) := by
  have hcounted := h.countIndex f hc (.fill k) false
  unfold Machine.placeFill
  dsimp only
  split
  · exact hcounted
  · refine limitTest (modCursor ?_ hc _) f c
    split
    · exact hcounted.setRing _ _
    · exact hcounted

/-- A placed frame's write takes the number that was next. -/
theorem placeMedia (h : Aftermath n s₀ s) (f : FeedNo) {c : ClipNo} (hc : ¬Ended (s₀.clip c))
    (e : RingEntry) : Aftermath n s₀ (placeMedia f c e s) := by
  have hcounted := h.number.countIndex f hc (.essence e.frame.size s.nextSerial) e.frame.mark
  unfold Machine.placeMedia
  dsimp only
  split
  · exact hcounted
  · refine limitTest (kickReducer ?_) f c
    refine enqueue ?_ (Nat.ne_of_gt h.numbered) ..
    refine modCursor ?_ hc _
    exact hcounted.of_frame

theorem placeHead (h : Aftermath n s₀ s) (f : FeedNo) {c : ClipNo} (hc : ¬Ended (s₀.clip c))
    (e : RingEntry) : Aftermath n s₀ (placeHead f c e s) := by
  unfold Machine.placeHead
  split
  · exact h.placeFill f hc .void true
  · exact h.placeMedia f hc e

theorem fillRun (h : Aftermath n s₀ s) (f : FeedNo) (m : Nat) (k : FillKind) :
    Aftermath n s₀ (fillRun f m k s) := by
  induction m generalizing s k with
  | zero => exact h
  | succ m ih =>
    unfold Machine.fillRun
    split
    · exact h
    · rename_i hrec
      exact ih (h.placeFill f (h.live_of_recordingClip hrec) k false) _

theorem endHold (h : Aftermath n s₀ s) (f : FeedNo) : Aftermath n s₀ (endHold f s) := by
  unfold Machine.endHold
  split
  · rename_i hrec _
    dsimp only
    split
    · exact h.fillRun _ _ _
    · exact h.succeedClip (h.live_of_recordingClip hrec) _ _ _
  · exact h

theorem endOldHold (h : Aftermath n s₀ s) (f : FeedNo) : Aftermath n s₀ (endOldHold f s) := by
  unfold Machine.endOldHold
  split
  · split
    · exact h.endHold f
    · exact h
  · exact h

theorem advanceRun (h : Aftermath n s₀ s) (f : FeedNo) (m : Nat) :
    Aftermath n s₀ (advanceRun f m s) := by
  induction m generalizing s with
  | zero => exact h
  | succ m ih =>
    have hhead := h.endOldHold f
    unfold Machine.advanceRun
    dsimp only
    split
    · rename_i hready
      obtain ⟨u, hrec⟩ := recordingClip_of_headOf_ready hready
      exact ih (hhead.placeHead f (hhead.live_of_recordingClip hrec) _)
    · exact hhead

theorem offerRun (h : Aftermath n s₀ s) (m : Nat) : Aftermath n s₀ (offerRun m s) := by
  induction m generalizing s with
  | zero => exact h
  | succ m ih =>
    unfold Machine.offerRun
    split
    · exact h
    · exact ih (h.advanceRun _ _)

theorem offerShare (h : Aftermath n s₀ s) : Aftermath n s₀ (offerShare s) := h.offerRun _

theorem offerFreed (h : Aftermath n s₀ s) : Aftermath n s₀ (offerFreed s) := by
  rcases offerFreed_cases s with heq | ⟨_, _, heq⟩ <;> rw [heq]
  · exact h.offerShare
  · exact h.finishStep.offerShare

end Aftermath

/-! ### An abort (R133) -/

/-- The abort in the class's record and counters, before the write's owner hears of it. -/
def reportAbort (e : WriteEntry) (r : AbortReason) (s : State) : State :=
  countClass e.cls (fun k => { k with aborts := bump k.aborts }) (setAbortFlag e.cls e.clip r s)

@[simp] theorem reportAbort_clip (e : WriteEntry) (r : AbortReason) (s : State) (c : ClipNo) :
    (reportAbort e r s).clip c = s.clip c := by
  simp [reportAbort]

theorem reportAbort_aborts (e : WriteEntry) (r : AbortReason) (s : State) :
    ((reportAbort e r s).sw.counters.get e.cls).aborts = bump (s.sw.counters.get e.cls).aborts := by
  simp [reportAbort]

theorem reportAbort_fault (e : WriteEntry) (r : AbortReason) (s : State) :
    ((reportAbort e r s).sw.counters.get e.cls).fault = (s.sw.counters.get e.cls).fault := by
  simp [reportAbort]

theorem reportAbort_flag (e : WriteEntry) (r : AbortReason) (s : State) :
    (reportAbort e r s).sw.records.get e.cls &&& r.bit = r.bit := by
  obtain ⟨extra, hrecords⟩ := setAbortFlag_records e.cls e.clip r s
  have hset : ((s.sw.records.get e.cls) ||| r.bit) &&& r.bit = r.bit := by
    rw [BitVec.or_comm]
    exact and_eq_of_or BitVec.and_self _
  simpa [reportAbort, hrecords] using and_eq_of_or hset extra

/-- With the write out of the queue, its number stays out of it from the report of the abort on. -/
theorem reportAbort_aftermath {e : WriteEntry} {r : AbortReason} {s : State}
    (hn : e.serial < s.nextSerial) :
    Aftermath e.serial (reportAbort e r (removeEntry e.serial s))
      (reportAbort e r (removeEntry e.serial s)) :=
  .refl (by simpa [reportAbort] using hn) (by simp [reportAbort])

/-- An aborted ESSENCE or INDEX write ends with the failure of its clip, and what it held is returned. -/
theorem Aftermath.abortWrite_of_failByAbort {n : Nat} {s₀ s : State} {e : WriteEntry} {r : AbortReason}
    (hcls : e.cls ≠ .browse) (h : Aftermath n s₀ (Machine.failByAbort e (reportAbort e r s))) :
    Aftermath n s₀ (abortWrite e r s) := by
  unfold Machine.abortWrite
  cases hk : e.cls with
  | essence => simpa [reportAbort, hk] using h.releaseData e
  | index => simpa [reportAbort, hk] using h.offerIndex
  | browse => exact absurd hk hcls

theorem Aftermath.abortWrite {n : Nat} {s₀ s : State} {e : WriteEntry} {r : AbortReason}
    (h : Aftermath n s₀ (reportAbort e r s)) : Aftermath n s₀ (abortWrite e r s) := by
  by_cases hk : e.cls = .browse
  · have hdone := (h.releaseData e).lateHole e.clip e.segment (pickOf e)
    simpa [Machine.abortWrite, reportAbort, hk] using hdone
  · exact .abortWrite_of_failByAbort hk (h.failByAbort e)

/-! ### A FAULT answer (R127) -/

/-- A FAULT answer for a write of the window is counted, the write is taken out and aborted, and the freed
entries are offered. -/
theorem exec_writeAnswer_fault {fr : EthFrame} {e : WriteEntry} {s : State} (h : AnswerFor fr 3 e s) :
    exec (.writeAnswer fr) s = .next (offerFreed (arbitrate (abortWrite e .fault (removeEntry e.serial
      (countClass e.cls (fun k => { k with fault := bump k.fault }) s))))) := by
  obtain ⟨hreset, hcarrier, id, hanswer, hentry⟩ := h
  calc exec (.writeAnswer fr) s
      = .next (receiveStorage fr s) := running_next hreset
    _ = .next (takeAnswer id 3 s) := by simp [receiveStorage, hcarrier, hanswer]
    _ = .next (answerWrite e 3 s) := by simp [takeAnswer, hentry]
    _ = _ := rfl

/-- Settles O28: the counters, the record and the clip are as the report of the abort and the failure of
the clip leave them, and what follows in the event keeps them. -/
theorem faultAnswerAbortsTheWrite : Obligations.FaultAnswerAbortsTheWrite := by
  intro fr e s hanswer hnumber hdrained
  let counted := countClass e.cls (fun k => { k with fault := bump k.fault }) s
  let reported := reportAbort e .fault (removeEntry e.serial counted)
  have hreported : Aftermath e.serial reported reported := reportAbort_aftermath hnumber
  have hafter := hreported.abortWrite.arbitrate.offerFreed
  refine ⟨_, exec_writeAnswer_fault hanswer, hafter.gone, ?_, ?_, ?_, fun hcls hlive => ?_⟩
  · calc _ = (reported.sw.counters.get e.cls).fault := hafter.fault_eq e.cls
      _ = (counted.sw.counters.get e.cls).fault := reportAbort_fault ..
      _ = _ := congrArg ClassCounters.fault (PerClass.get_modify_self ..)
  · calc _ = (reported.sw.counters.get e.cls).aborts := hafter.aborts_eq e.cls
      _ = bump (counted.sw.counters.get e.cls).aborts := reportAbort_aborts ..
      _ = _ := congrArg (bump ∘ ClassCounters.aborts) (PerClass.get_modify_self ..)
  · exact hafter.flags e.cls _ (reportAbort_flag e .fault _)
  · have hclip : reported.clip e.clip = s.clip e.clip := by simp [reported, counted]
    have hfail := failByAbort_clip e reported e.clip
    have hbroken := hreported.failByAbort e
    have hkept := ((Aftermath.refl hbroken.numbered hbroken.gone).abortWrite_of_failByAbort hcls
      ).arbitrate.offerFreed.clips e.clip
    have hended := failClip_clip (c := e.clip) (s := reported) (by rwa [hclip]) (by rwa [hclip]) true
    rw [hclip, ← hfail] at hended
    obtain ⟨hdead, hclosed, hfrontier⟩ := hended
    rw [hkept hdead]
    exact ⟨hdead.1, hclosed, hfrontier⟩

end Sys2Proof.Machine
end

section
/-! PROOFS. CONTRIBUTION_FRAME_RECEIVED for a MGMT unit: its way to the Management Unit and the tests of
R157 (R23, R25). -/

namespace Sys2Proof.Machine

/-! ### From the port to the Management Unit (R20, R23, R25) -/

/-- A received frame that holds a whole unit gives that unit to the check. -/
theorem exec_contributionFrameReceived_unit {fr : EthFrame} {src : Addr} {u : UnitView} {s : State}
    (h : Receiving s) (hunit : classify fr = .unit src u) :
    exec (.contributionFrameReceived fr) s = .next (takeReceived src u s) := by
  obtain ⟨hreset, hcarrier, hdue⟩ := h
  calc exec (.contributionFrameReceived fr) s
      = .next (receiveFrame fr s) := running_next hreset
    _ = _ := by simp [receiveFrame, hcarrier, hdue, hunit]

/-- A MGMT unit that passes the check is counted and handed to the MU. -/
theorem takeReceived_mgmt {u : UnitView} (hpass : u.passes = true) (hcls : u.cls = clsMgmt)
    (src : Addr) (s : State) :
    takeReceived src u s =
      requestArrives src u.payload (countPort (fun k => { k with management := bump k.management }) s) := by
  rw [takeReceived, if_pos hpass, if_neg (by rw [hcls]; decide), if_pos hcls]

/-! ### The tests of R157, first to last -/

/-- The origin test fails where the origin list names some addresses and the sender is none of them. -/
theorem originRefused_iff {origins : List Addr} {src : Addr} :
    (!origins.isEmpty && !origins.contains src) = true ↔ origins ≠ [] ∧ src ∉ origins := by
  simp

theorem parseRequest_of_short {payload : List Byte} (h : payload.length < 4) (src : Addr) :
    parseRequest src payload = none :=
  if_pos h

theorem parseRequest_of_long {payload : List Byte} (h : ¬payload.length < 4) (src : Addr) :
    parseRequest src payload =
      some ⟨src, BitVec.ofNat 16 (field 0 2 payload), BitVec.ofNat 16 (field 2 2 payload),
        payload.drop 4⟩ :=
  if_neg h

/-- The tests in order: origin, body, room. -/
theorem requestArrives_eq (src : Addr) (payload : List Byte) (s : State) :
    requestArrives src payload s =
      if s.mu.origins ≠ [] ∧ src ∉ s.mu.origins then
        { s with mu := { s.mu with refusedOrigin := bump s.mu.refusedOrigin } }
      else if payload.length < 4 then
        { s with mu := { s.mu with malformedRequests := bump s.mu.malformedRequests } }
      else if 8 ≤ s.mu.requests.length then
        { s with mu := { s.mu with requestsDropped := bump s.mu.requestsDropped } }
      else
        { s with mu := { s.mu with
            requests := s.mu.requests ++
              [⟨src, BitVec.ofNat 16 (field 0 2 payload), BitVec.ofNat 16 (field 2 2 payload),
                payload.drop 4⟩] } } := by
  rw [requestArrives]
  by_cases horigin : s.mu.origins ≠ [] ∧ src ∉ s.mu.origins
  · rw [if_pos (originRefused_iff.mpr horigin), if_pos horigin]
  rw [if_neg (mt originRefused_iff.mp horigin), if_neg horigin]
  by_cases hbody : payload.length < 4
  · rw [if_pos hbody, parseRequest_of_short hbody]
  rw [if_neg hbody, parseRequest_of_long hbody]
  by_cases hroom : s.mu.requests.length < 8
  · exact (if_pos hroom).trans (if_neg (Nat.not_le.mpr hroom)).symm
  · exact (if_neg hroom).trans (if_pos (Nat.not_lt.mp hroom)).symm

/-- Settles O10: the unit passes the check and comes to the MU counted, where the tests read the MU's state
alone, which the count leaves as it stands. -/
theorem managementUnitsPassTheThreeTests : Obligations.ManagementUnitsPassTheThreeTests := by
  intro fr src u s hreceiving hunit hpass hcls
  let counted : State := countPort (fun k => { k with management := bump k.management }) s
  calc exec (.contributionFrameReceived fr) s
      = .next (takeReceived src u s) := exec_contributionFrameReceived_unit hreceiving hunit
    _ = .next (requestArrives src u.payload counted) := by rw [takeReceived_mgmt hpass hcls]
    _ = _ := congrArg _ (requestArrives_eq src u.payload counted)

end Sys2Proof.Machine
end
